-- ==== Sys2Proof/Word.lean ====
section
/-! DEFINITION. Words, addresses, lane and engine numbers, and the two range ends that the whole manual uses. -/

namespace Sys2Proof

/-- One byte of host memory. -/
abbrev Byte := BitVec 8

/-- A 64-bit host physical address (manual section 6.3, R167). -/
abbrev Addr := BitVec 64

/-- A lane number, 0 to 15. -/
abbrev LaneId := Fin 16

/-- A Mix Engine number, 0 or 1. -/
abbrev MixId := Fin 2

/-- The largest time value, 2^48 − 1 (R3, R5). -/
def maxTime : Nat := 281474976710655

/-- Where counters and totals saturate, 2^32 − 1 (R137, R138). -/
def maxCount : Nat := 4294967295

/-- A count that stays at its largest value (R137, R138). -/
def satAdd (a b : Nat) : Nat := min (a + b) maxCount

end Sys2Proof
end

