-- ==== Sys2Proof/Syntax.lean ====
section
/-! DEFINITION. The commands of the part: one constructor for each row of spec/opcode_table.json, with the operands that
the row's rule names. A read completion carries the bytes that host memory held when the read completed (log 1). -/

namespace Sys2Proof

/-- One cue as an intake read finds it: the 16-byte fixed part, and the first 241 bytes of the text or the whole text
when it is shorter (R26, R177). -/
structure RawCue where
  fixed : BitVec 128
  text  : List Byte
  deriving DecidableEq, Repr

/-- Which of a lane's reads a timeout meets (R152). -/
inductive LaneReadKind where
  | entry | record | poll | intake | compare | clipSamples | block
  deriving DecidableEq, Repr

/-- A read of the part that is outstanding on the link: one of a lane's, or the INSPECT read of a lane entry. -/
inductive ReadRef where
  | lane (k : LaneReadKind) (i : LaneId)
  | inspectEntry
  deriving DecidableEq, Repr

/-- Which half of DIR_BASE a write names (R164). -/
inductive DirHalf where
  | lo | hi
  deriving DecidableEq, Repr

/-- The operations and events of the 2440. -/
inductive Instr where
  | start (i : LaneId)
  | continueLane (i : LaneId)
  | resume (i : LaneId)
  | skip (i : LaneId)
  | abandon (i : LaneId)
  | inspect (i : LaneId)
  | refusedAction (i : LaneId) (code : BitVec 4)
  | noticePendWrite (v : BitVec 32)
  | noticeMaskWrite (v : BitVec 32)
  | dirBaseWrite (half : DirHalf) (v : BitVec 32)
  | holdSet
  | holdClear
  | devCtrlReset
  | registerWriteIgnored (offset : BitVec 12) (nbytes : Nat) (v : BitVec 32)
  | functionLevelReset
  | powerOn
  | entryReadComplete (i : LaneId) (start : Addr)
  | entryReadFail (i : LaneId)
  | recordHeaderReadComplete (i : LaneId) (header : BitVec 128)
  | recordBodyReadComplete (i : LaneId) (bytes : List Byte)
  | recordFetchReadFail (i : LaneId)
  | gatePollComplete (i : LaneId) (word : BitVec 32)
  | gatePollFail (i : LaneId)
  | pollPhaseExpiry (i : LaneId)
  | gateTimeout (i : LaneId)
  | readTimeout (r : ReadRef)
  | lateCompletion (r : ReadRef)
  | intakeReadComplete (i : LaneId) (cues : List RawCue)
  | intakeReadFail (i : LaneId)
  | timingEngineGrant
  | mixEngineGrant
  | cueUnitEnd
  | clipUnitEnd
  | segmentWriteAccepted
  | segmentWriteRefused
  | compareReadComplete (bytes : List Byte)
  | compareReadFail
  | blockReadComplete (i : LaneId) (bytes : List Byte)
  | blockReadFail (i : LaneId)
  | staleReadEnd (i : LaneId)
  | clipSampleReadComplete (e : MixId) (runs : List (List Byte))
  | clipSampleReadFail (e : MixId)
  | mixOutputWriteAccepted (e : MixId)
  | mixOutputWriteRefused (e : MixId)
  | retirementWriteAccepted (i : LaneId)
  | statusWriteRefused (i : LaneId)
  | resumePointWriteRefused (i : LaneId)
  | restStateWriteRefused (i : LaneId)
  | linkResumePointRefused (i : LaneId)
  | stopResumePointRefused (i : LaneId)
  | teardownWriteRefused (i : LaneId)
  | noticeSlotWriteAccepted (i : LaneId)
  | noticeSlotWriteRefused (i : LaneId)
  | msiWriteRefused
  | abandonTeardown (i : LaneId)
  | holdDrainComplete
  | inspectEntryReadComplete (bytes : BitVec 96)
  | inspectEntryReadFail
  | inspectDone
  | inspectFailed
  deriving DecidableEq, Repr

end Sys2Proof
end

