-- ==== Sys2Proof/WellFormed.lean ====
section
/-! DEFINITION. Which commands are well formed: the checks on operands that a row's rule makes without looking at the
part's state. Lengths that depend on the read in flight are checked where the completion is taken (log 23). -/

namespace Sys2Proof

/-- The offsets of the seven registers (manual section 10.1). -/
def registerOffsets : List Nat := [0x000, 0x004, 0x008, 0x00C, 0x010, 0x014, 0x018]

/-- R163, R166: a write is ignored when it does not cover all four bytes of a register, names DEV_STAT, or names an
offset that is none of the seven. -/
def writeIgnored (offset : BitVec 12) (nbytes : Nat) : Bool :=
  decide (nbytes < 4) || decide (offset.toNat = 0x018) || !(registerOffsets.contains offset.toNat)

/-- R26: an intake reads at most 241 bytes of a cue's text. -/
def RawCue.wellFormed (c : RawCue) : Bool := decide (c.text.length ≤ 241)

/-- A command whose operands fit its row. -/
def Instr.wellFormed : Instr → Bool
  | .refusedAction _ code => decide (code.toNat = 0) || decide (7 ≤ code.toNat)
  | .registerWriteIgnored offset nbytes _ => decide (nbytes ≤ 4) && writeIgnored offset nbytes
  | .recordBodyReadComplete _ bytes => decide (0 < bytes.length) && decide (bytes.length ≤ 496)
  | .intakeReadComplete _ cues => decide (cues.length ≤ 8) && cues.all RawCue.wellFormed
  | .compareReadComplete bytes => decide (48 ≤ bytes.length) && decide (bytes.length ≤ 16432)
  | .blockReadComplete _ bytes => decide (bytes.length ≤ 16384)
  | .clipSampleReadComplete _ runs => !runs.isEmpty && runs.all (fun r => decide (r.length ≤ 2048))
  | .start _ | .continueLane _ | .resume _ | .skip _ | .abandon _ | .inspect _ => true
  | .noticePendWrite _ | .noticeMaskWrite _ | .dirBaseWrite _ _ => true
  | .holdSet | .holdClear | .devCtrlReset | .functionLevelReset | .powerOn => true
  | .entryReadComplete _ _ | .entryReadFail _ | .recordHeaderReadComplete _ _ | .recordFetchReadFail _ => true
  | .gatePollComplete _ _ | .gatePollFail _ | .pollPhaseExpiry _ | .gateTimeout _ => true
  | .readTimeout _ | .lateCompletion _ | .intakeReadFail _ => true
  | .timingEngineGrant | .mixEngineGrant | .cueUnitEnd | .clipUnitEnd => true
  | .segmentWriteAccepted | .segmentWriteRefused | .compareReadFail => true
  | .blockReadFail _ | .staleReadEnd _ | .clipSampleReadFail _ => true
  | .mixOutputWriteAccepted _ | .mixOutputWriteRefused _ => true
  | .retirementWriteAccepted _ | .statusWriteRefused _ | .resumePointWriteRefused _ | .restStateWriteRefused _ => true
  | .linkResumePointRefused _ | .stopResumePointRefused _ | .teardownWriteRefused _ => true
  | .noticeSlotWriteAccepted _ | .noticeSlotWriteRefused _ | .msiWriteRefused => true
  | .abandonTeardown _ | .holdDrainComplete => true
  | .inspectEntryReadComplete _ | .inspectEntryReadFail | .inspectDone | .inspectFailed => true

end Sys2Proof
end

