-- ==== Sys2Proof/Decode.lean ====
section
/-! DEFINITION. How a host write to the BAR becomes a command (R163 to R166), and the host's `decodeTableWord`. No row of
spec/opcode_table.json gives bits, so no word spells a row and the answer is always none. -/

namespace Sys2Proof

/-- The row that a word spells by the table's bits: the table gives bits for none of its rows. -/
def decodeTableWord (_nbits _w : Nat) : Option Instr := none

/-- R165: a LANE_CMD write carries the lane in bits 3:0 and the action code in bits 11:8; the other bits are ignored. -/
def decodeLaneCmd (v : BitVec 32) : Instr :=
  let i : LaneId := (v.extractLsb' 0 4).toFin
  match (v.extractLsb' 8 4).toNat with
  | 1 => .start i
  | 2 => .continueLane i
  | 3 => .resume i
  | 4 => .skip i
  | 5 => .abandon i
  | 6 => .inspect i
  | _ => .refusedAction i (v.extractLsb' 8 4)

/-- R166: a DEV_CTRL write with RESET 1 is a device reset whose HOLD bit is not taken; with RESET 0 it sets HOLD to the
value written. -/
def decodeDevCtrl (v : BitVec 32) : Instr :=
  if v.getLsbD 1 then .devCtrlReset
  else if v.getLsbD 0 then .holdSet else .holdClear

/-- R163: one write of at most four bytes at a BAR offset. -/
def decodeWrite32 (offset : BitVec 12) (nbytes : Nat) (v : BitVec 32) : Instr :=
  if nbytes < 4 then .registerWriteIgnored offset nbytes v
  else match offset.toNat with
    | 0x000 => .dirBaseWrite .lo v
    | 0x004 => .dirBaseWrite .hi v
    | 0x008 => decodeLaneCmd v
    | 0x00C => .noticePendWrite v
    | 0x010 => .noticeMaskWrite v
    | 0x014 => decodeDevCtrl v
    | _ => .registerWriteIgnored offset nbytes v

/-- R163: a 64-bit access is taken as two 32-bit accesses, the lower address first. At the BAR's last register the upper
half lies past the 4 KiB and is no write to the part (log 36). -/
def decodeWrite64 (offset : BitVec 12) (v : BitVec 64) : List Instr :=
  decodeWrite32 offset 4 (v.extractLsb' 0 32)
    :: if offset.toNat + 4 < 4096 then [decodeWrite32 (offset + 4) 4 (v.extractLsb' 32 32)] else []

end Sys2Proof
end

