-- ==== Sys2Proof/Machine/Bytes.lean ====
section
/-! DEFINITION. Byte order and padding, once for the whole model: every multi-byte value is little-endian (R173). -/

namespace Sys2Proof.Machine

open Sys2Proof

/-- The low `n` bytes of a number, least significant first (R173). -/
def leBytes : Nat → Nat → List Byte
  | 0, _ => []
  | n + 1, v => BitVec.ofNat 8 v :: leBytes n (v / 256)

/-- The number whose bytes, least significant first, are given (R173). -/
def leNat : List Byte → Nat
  | [] => 0
  | b :: bs => b.toNat + 256 * leNat bs

/-- The unsigned field of `n` bytes at a byte offset of a structure (R173). -/
def leField (bytes : List Byte) (off n : Nat) : Nat := leNat ((bytes.drop off).take n)

/-- The byte at an offset of a structure. -/
def byteAt (bytes : List Byte) (off : Nat) : Byte := bytes.getD off 0

/-- How many padding bytes bring a length to a multiple of 8 (R51, R177, R179). -/
def padLen (n : Nat) : Nat := (8 - n % 8) % 8

/-- A length rounded up to a multiple of 8. -/
def round8 (n : Nat) : Nat := n + padLen n

/-- A text followed by its zero padding to a multiple of 8 (R49, R178, R179). -/
def padded (text : List Byte) : List Byte := text ++ List.replicate (padLen text.length) 0

/-- R80: signed 16-bit little-endian samples. A byte left over at the end is no sample. -/
def samplesOf : List Byte → List (BitVec 16)
  | lo :: hi :: rest => (hi ++ lo) :: samplesOf rest
  | _ => []

/-- The two bytes of one sample (R80). -/
def sampleBytes (v : Int) : List Byte :=
  let w : BitVec 16 := BitVec.ofInt 16 v
  [w.extractLsb' 0 8, w.extractLsb' 8 8]

/-- Whether an address is a multiple of `n` (manual section 6.3). -/
def aligned (a : Addr) (n : Nat) : Bool := decide (a.toNat % n = 0)

end Sys2Proof.Machine
end

