-- ==== Sys2Proof/Config.lean ====
section
/-! DEFINITION. What the manual leaves free, and the sizes it fixes for the part. -/

namespace Sys2Proof.Config

/-- FREE VALUE (log 12). R127 asks for "the record's address plus its length" of an abandoned lane's current record, and
R153 lets a lane hold a record by its address alone, with no length. The manual states no length there. It is drawn with
the counter `State.freeCtr`; nothing constrains it. -/
opaque unreadLength : Nat → BitVec 16

/-- Cue slots in the cue pool (R17). -/
def cuePool : Nat := 4096

/-- Clip entries in the clip pool (R61). -/
def clipPool : Nat := 512

/-- Cues in one intake batch at most (R26). -/
def batchMax : Nat := 8

/-- Pieces in one segment at most (R48). -/
def pieceMax : Nat := 64

/-- Frames in one audio block at most (R80). -/
def blockFrames : Nat := 1024

/-- Blocks in a programme queue at most; the pause flag sets here (R81, R83). -/
def queueMax : Nat := 3

end Sys2Proof.Config
end

