-- ==== Sys2Proof/Machine/State.lean ====
section
/-! DEFINITION. The state of the 2440 as plain data: the sixteen lane contexts, the pools, the engines, the Notice Unit,
the Command Port, the registers, the model's record of what was put on the link, and the queue of waiting commands. -/

namespace Sys2Proof.Machine

open Sys2Proof

/-! ## Names of states, kinds, outcomes and reasons -/

/-- The eleven lane states (R116). -/
inductive LaneState where
  | idle | fetching | gated | waitData | queued | working | retiring | noticeWait | stopped | halted | abandoning
  deriving DecidableEq, Repr

/-- What a lane is opened for (R104, R115). -/
inductive LaneKind where
  | none | subtitle | description
  deriving DecidableEq, Repr

/-- The ten record kinds (R97, R175). -/
inductive RecKind where
  | openRec | closeRec | cues | cue | emit | clip | mix | mark | link | stop
  deriving DecidableEq, Repr

/-- Record outcomes (R99, R109), and STOPPED, which only a notice carries (R142). -/
inductive RecOutcome where
  | done | noted | partialDone | failed | halted | skipped | abandoned | stopped
  deriving DecidableEq, Repr

/-- Reasons of a status, and halt reasons (R99, R115). -/
inductive Reason where
  | none | storeFull | areaFull | badRecord | badParam | laneOpen | laneClosed | wrongKind | hostAccess | gateTimeout
  | noteHalt
  deriving DecidableEq, Repr

/-- Rest states of a lane entry (R113). -/
inductive RestState where
  | idle | running | stopped | halted
  deriving DecidableEq, Repr

/-- The fourteen note kinds (manual section 8.1). -/
inductive NoteKind where
  | beforeZero | outOfOrder | late | extended | trimmed | fastRead | textCut | crowded | emptyCue | differs | range
  | clipped | filtered | leftover
  deriving DecidableEq, Repr

/-- Policies (R139). -/
inductive Policy where
  | count | notice | halt
  deriving DecidableEq, Repr

/-- Device states of DEV_STAT bits 1:0 (R166). -/
inductive DevState where
  | run | holding | held
  deriving DecidableEq, Repr

/-- Results of the Command Port (R119, R165). -/
inductive CmdResult where
  | none | accepted | refusedState | refusedBusy | refusedAction | refusedNoDirectory | inspectDone | inspectFailed
  deriving DecidableEq, Repr

/-! ## Entries of the pools -/

/-- A cue store entry (R20). `latest` marks the entry that its position slot's latest reference names (R23, log 20). -/
structure CueEntry where
  start     : Nat
  stop      : Nat
  slot      : BitVec 3
  style     : BitVec 4
  forced    : Bool
  text      : List Byte
  chars     : Nat
  continued : Bool
  latest    : Bool
  deriving DecidableEq, Repr

/-- A clip table entry (R66). -/
structure ClipEntry where
  pcm     : Addr
  len     : Nat
  start   : Nat
  gain    : Nat
  duck    : Nat
  attack  : Nat
  release : Nat
  mask    : BitVec 8
  deriving DecidableEq, Repr

/-! ## Lane parameters -/

/-- The parameters and policy table that OPEN sets (R1, R22, R64, R139). -/
structure Params where
  ns         : Nat
  ds         : Nat
  rOut       : Nat
  offset     : Int
  grid       : Nat
  segDur     : Nat
  startPt    : Nat
  cps10      : Nat
  dMin       : Nat
  quota      : Nat
  forcedOnly : Bool
  chans      : Nat
  duckMask   : BitVec 8
  policy     : Vector Policy 14
  deriving DecidableEq, Repr

/-- R115: after device reset every parameter is 0 and every policy COUNT. -/
def Params.zero : Params :=
  { ns := 0, ds := 0, rOut := 0, offset := 0, grid := 0, segDur := 0, startPt := 0, cps10 := 0, dMin := 0, quota := 0
    forcedOnly := false, chans := 0, duckMask := 0, policy := Vector.replicate 14 .count }

/-! ## Records and their execution -/

/-- What a lane takes from a record's header (R96, R97, R175). `kind` is none when the header failed R97 (log 14). -/
structure Header where
  kind   : Option RecKind
  notify : Bool
  gated  : Bool
  len    : Nat
  tag    : BitVec 24
  deriving DecidableEq, Repr

/-- The execution state of a record (R110, R136; the cue cursor of R25; the EMIT items of R45). -/
structure ExecState where
  progress  : Nat
  notes     : BitVec 16
  cursor    : Nat
  areaOff   : Nat
  through   : Nat
  diffCount : Nat
  firstDiff : Option (Nat × Nat)
  deriving DecidableEq, Repr

/-- R110: the execution state of a record first executed. -/
def ExecState.zero : ExecState :=
  { progress := 0, notes := 0, cursor := 0, areaOff := 0, through := 0, diffCount := 0, firstDiff := none }

/-- What a retirement reports: outcome, reason, note bits and progress (R99). -/
structure RecResult where
  outcome  : RecOutcome
  reason   : Reason
  notes    : BitVec 16
  progress : Nat
  deriving DecidableEq, Repr

/-- An owed retirement (R154, R155, R160): its result, and whether its status was accepted. -/
structure Owed where
  res      : RecResult
  accepted : Bool
  deriving DecidableEq, Repr

/-- The current record (R96, R115). `hdr` is none when the lane holds it by its address alone (R153); `body` holds the
record's bytes from offset 16. -/
structure Record where
  addr : Addr
  hdr  : Option Header
  body : List Byte
  ex   : ExecState
  owed : Option Owed
  deriving DecidableEq, Repr

/-- A notice (R142). -/
structure Notice where
  addr     : Addr
  tag      : BitVec 24
  outcome  : RecOutcome
  reason   : Reason
  notes    : BitVec 16
  progress : Nat
  rest     : RestState
  deriving DecidableEq, Repr

/-! ## A lane's transfers -/

/-- A read of the lane's own: its directory entry, a record's header (`skip`: the read of R161), a record's body after
the header given, or a batch of cues. -/
inductive LaneRead where
  | entry
  | header (skip : Bool)
  | body (h : Header)
  | intake
  deriving DecidableEq, Repr

/-- Which field a write of a sequence carries (R111, R127). -/
inductive WriteKind where
  | results
  | status
  | resumePoint (target : Addr)
  | restState (r : RestState)
  deriving DecidableEq, Repr

/-- One step of a write sequence: a write to host memory, or the hand-off of a notice to the Notice Unit (R111). -/
inductive SeqStep where
  | write (k : WriteKind) (addr : Addr) (bytes : List Byte)
  | notice (n : Notice)
  deriving DecidableEq, Repr

/-- What a write sequence belongs to: a retirement (R111), a passed LINK (R107), a STOP (R108), an entry-read halt (R95),
the halt after a refused write or on an owed retirement (R154, R155, R160), an ABANDON teardown (R127). -/
inductive SeqKind where
  | retire (res : RecResult)
  | linkPass
  | stop
  | entryHalt
  | rehalt
  | teardown
  deriving DecidableEq, Repr

/-- A write sequence: what remains of it, whether its first write has been issued (R169), and whether one of a
teardown's writes was refused (R127). -/
structure WriteSeq where
  kind   : SeqKind
  steps  : List SeqStep
  begun  : Bool
  failed : Bool
  deriving DecidableEq, Repr

/-- The lane's own transfer: none, a read (issued, or waiting for HOLD to be cleared), or a write sequence whose head is
in flight once the sequence has begun (R116, R169). -/
inductive LaneIO where
  | idle
  | read (r : LaneRead) (issued : Bool)
  | seq (q : WriteSeq)
  deriving DecidableEq, Repr

/-- What a NOTICE_WAIT lane does when it is released (R118, R146). -/
inductive WaitAct where
  | fetch | resume | skip
  deriving DecidableEq, Repr

/-- The gate poll of a lane (R100): none, due but not issued, outstanding, or the poll phase running. -/
inductive PollState where
  | none | due | outstanding | phase
  deriving DecidableEq, Repr

/-- The Gate Timer's state for one lane (R100, R101): deadline in ms (0: no limit), poll, and whether a poll that was
outstanding at an expiry has yet to end (log 9). -/
structure Gate where
  deadline : Nat
  poll     : PollState
  stale    : Bool
  deriving DecidableEq, Repr

/-- The Gate Timer's state after device reset (R171). -/
def Gate.reset : Gate := { deadline := 0, poll := .none, stale := false }

/-- A block of a programme queue (R81). -/
inductive QBlock where
  | read (off : Nat) (count : Nat) (samples : List (BitVec 16))
  | errored (off : Nat)
  deriving DecidableEq, Repr

/-- The outstanding block read of a lane (R81): none, live with its frame offset and count, or stale. -/
inductive BlockRead where
  | none
  | live (off : Nat) (count : Nat)
  | stale
  deriving DecidableEq, Repr

/-- The Prefetch Unit's state for one lane (R81). -/
structure Prefetch where
  queue       : List QBlock
  paused      : Bool
  cursor      : Nat
  outstanding : BlockRead
  stopped     : Bool
  deriving DecidableEq, Repr

/-- R81, R171: empty queue, flags clear, cursor 0, no read outstanding. -/
def Prefetch.reset : Prefetch :=
  { queue := [], paused := false, cursor := 0, outstanding := .none, stopped := false }

/-- A notice slot write in flight: the notice, whether it is the hand-off of the lane's own write sequence (or else a
released deferred notice), and whether the pending bit is set at its end (R144, R146, R150). -/
structure SlotWrite where
  notice  : Notice
  own     : Bool
  setsBit : Bool
  deriving DecidableEq, Repr

/-! ## The lane context -/

/-- One lane's context (R115), with what the Gate Timer, the Prefetch Unit and the Notice Unit hold for the lane. -/
structure Lane where
  state       : LaneState
  kind        : LaneKind
  par         : Params
  next        : Option Addr
  cur         : Option Record
  contPending : Bool
  haltReason  : Reason
  restLast    : RestState
  store       : List CueEntry
  lastStart   : Nat
  nextSeg     : Nat
  intake      : List RawCue
  overrun     : Bool
  table       : List ClipEntry
  mixPos      : Nat
  base        : Nat
  counters    : Vector Nat 14
  segTotal    : Nat
  frmTotal    : Nat
  io          : LaneIO
  waitAct     : WaitAct
  gate        : Gate
  pf          : Prefetch
  deferred    : Option Notice
  slot        : Option SlotWrite
  deriving DecidableEq, Repr

/-- R115, R171: a lane after device reset. -/
def Lane.reset : Lane :=
  { state := .idle, kind := .none, par := Params.zero, next := none, cur := none, contPending := false
    haltReason := .none, restLast := .idle, store := [], lastStart := 0, nextSeg := 0, intake := [], overrun := false
    table := [], mixPos := 0, base := 0, counters := Vector.replicate 14 0, segTotal := 0, frmTotal := 0, io := .idle
    waitAct := .fetch, gate := Gate.reset, pf := Prefetch.reset, deferred := none, slot := none }

/-! ## Engines -/

/-- The Timing Engine's unit in flight (R29, R46, R69). -/
inductive TimingUnit where
  | none | cue | clip | segWrite | compare
  deriving DecidableEq, Repr

/-- The Timing Engine: owner, round-robin pointer, unit, segment build buffer (R46, R131). -/
structure TimingEngine where
  owner  : Option LaneId
  ptr    : LaneId
  unit   : TimingUnit
  buffer : List Byte
  deriving DecidableEq, Repr

/-- R131, R171: no owner, pointer 15, empty buffer. -/
def TimingEngine.reset : TimingEngine := { owner := none, ptr := 15, unit := .none, buffer := [] }

/-- How far a Mix unit has come (R88, R91). -/
inductive MixPhase where
  | idle | reading | writing
  deriving DecidableEq, Repr

/-- A Mix Engine: current lane, its view of the clip table, its accumulators, its phase (R88, R89). -/
structure MixEngine where
  owner : Option LaneId
  view  : List ClipEntry
  acc   : List Int
  phase : MixPhase
  deriving DecidableEq, Repr

/-- R171: no current lane, accumulators cleared. -/
def MixEngine.reset : MixEngine := { owner := none, view := [], acc := [], phase := .idle }

/-! ## Command Port and configuration space -/

/-- The snapshot an INSPECT takes at acceptance (R129). -/
structure Snapshot where
  lane     : LaneId
  state    : LaneState
  kind     : LaneKind
  halt     : Reason
  recAddr  : Addr
  progress : Nat
  pos      : Nat
  counters : Vector Nat 14
  segTotal : Nat
  frmTotal : Nat
  cues     : List CueEntry
  clips    : List ClipEntry
  deriving DecidableEq, Repr

/-- How far an INSPECT has come: reading the lane entry, or writing the image (R130). -/
inductive InspectPhase where
  | entryRead
  | writing (addr : Addr) (bytes : List Byte)
  deriving DecidableEq, Repr

/-- An INSPECT in progress, with DIR_BASE as it stood at acceptance (R129, R164). -/
structure InspectJob where
  base  : Addr
  snap  : Snapshot
  phase : InspectPhase
  deriving DecidableEq, Repr

/-- The Command Port (R119). The busy flag is set exactly while `job` holds an INSPECT. -/
structure CmdPort where
  lastLane   : LaneId
  lastAction : BitVec 4
  lastResult : CmdResult
  job        : Option InspectJob
  deriving DecidableEq, Repr

/-- R119, R171: busy clear, last lane 0, last action 0, result NONE. -/
def CmdPort.reset : CmdPort := { lastLane := 0, lastAction := 0, lastResult := .none, job := none }

/-- The bits of configuration space that the part's behaviour depends on (R149, R167, R168, R171; log 5): whether it may
make transfers at all, and the MSI's enable, address and data. -/
structure BusConfig where
  busMaster : Bool
  msiEnable : Bool
  msiAddr   : Addr
  msiData   : BitVec 32
  deriving DecidableEq, Repr

/-- R171: bus mastering and MSI disabled. The MSI address and data after reset are DESIGN CHOICE 0 (log 5). -/
def BusConfig.reset : BusConfig := { busMaster := false, msiEnable := false, msiAddr := 0, msiData := 0 }

/-- A write put on the link (log 1, log 19): accepted; torn, refused or cut, so that each byte may be old or new (R162);
or an MSI (R149). A refused notice slot write leaves the slot as it was (R151) and is none of these. -/
inductive LinkWrite where
  | accepted (addr : Addr) (bytes : List Byte)
  | torn (addr : Addr) (bytes : List Byte)
  | msi (addr : Addr) (data : BitVec 32)
  deriving DecidableEq, Repr

/-! ## The whole part -/

/-- The state of the 2440. -/
structure State where
  lanes    : Vector Lane 16
  cueFree  : Nat
  clipFree : Nat
  timing   : TimingEngine
  mix      : Vector MixEngine 2
  mixPtr   : LaneId
  pend     : BitVec 16
  mask     : BitVec 16
  dirBase  : Addr
  port     : CmdPort
  dev      : DevState
  bus      : BusConfig
  wire     : List LinkWrite
  msiAsked : Nat
  freeCtr  : Nat
  pending  : List Instr
  deriving DecidableEq, Repr

/-- R171: the part after power-on. `wire`, `msiAsked`, `freeCtr` and `pending` are the model's own and start empty. -/
def State.reset : State :=
  { lanes := Vector.replicate 16 Lane.reset, cueFree := Config.cuePool, clipFree := Config.clipPool
    timing := TimingEngine.reset, mix := Vector.replicate 2 MixEngine.reset, mixPtr := 15, pend := 0, mask := 0
    dirBase := 0, port := CmdPort.reset, dev := .run, bus := BusConfig.reset, wire := [], msiAsked := 0, freeCtr := 0
    pending := [] }

/-! ## How a step can stop -/

/-- Faults. The part stops on no fault: a failed access halts one lane, which is a next state (R152, R153). So there is
no constructor; nothing raises a fault, and that is safe. -/
inductive Fault where
  deriving DecidableEq, Repr

/-- Refusals. -/
inductive Refusal where
  /-- Raised by an arm of exec whose command has no meaning yet. Safe: nothing can be proved about its next state. No arm
  raises it in this model. -/
  | notModelled (mnemonic : String)
  deriving DecidableEq, Repr

end Sys2Proof.Machine
end

