-- ==== Sys2Proof/Machine/Operands.lean ====
section
/-! DEFINITION. The shared-memory formats of chapter 11: codes, the record header, the gate, the record bodies, the cue
entry, and the bytes of the structures that the part writes, but for segments (Segments.lean) and the inspection image
(Inspection.lean). -/

namespace Sys2Proof.Machine

open Sys2Proof

/-! ## Codes (R165, R174, R175, R179) -/

/-- Record kind codes (R175); any other code is no kind. -/
def RecKind.ofCode : Nat → Option RecKind
  | 1 => some .openRec
  | 2 => some .closeRec
  | 3 => some .cues
  | 4 => some .cue
  | 5 => some .emit
  | 6 => some .clip
  | 7 => some .mix
  | 8 => some .mark
  | 9 => some .link
  | 10 => some .stop
  | _ => none

/-- Outcome codes (R175). -/
def RecOutcome.code : RecOutcome → Nat
  | .done => 1
  | .noted => 2
  | .partialDone => 3
  | .failed => 4
  | .halted => 5
  | .skipped => 6
  | .abandoned => 7
  | .stopped => 8

/-- Reason codes (R175). -/
def Reason.code : Reason → Nat
  | .none => 0
  | .storeFull => 1
  | .areaFull => 2
  | .badRecord => 3
  | .badParam => 4
  | .laneOpen => 5
  | .laneClosed => 6
  | .wrongKind => 7
  | .hostAccess => 8
  | .gateTimeout => 9
  | .noteHalt => 10

/-- Rest state codes (R174). -/
def RestState.code : RestState → Nat
  | .idle => 0
  | .running => 1
  | .stopped => 2
  | .halted => 3

/-- Lane state codes (R179). -/
def LaneState.code : LaneState → Nat
  | .idle => 0
  | .fetching => 1
  | .gated => 2
  | .waitData => 3
  | .queued => 4
  | .working => 5
  | .retiring => 6
  | .noticeWait => 7
  | .stopped => 8
  | .halted => 9
  | .abandoning => 10

/-- Lane kind codes (R179). -/
def LaneKind.code : LaneKind → Nat
  | .none => 0
  | .subtitle => 1
  | .description => 2

/-- Result codes of the Command Port (R165). -/
def CmdResult.code : CmdResult → Nat
  | .none => 0
  | .accepted => 1
  | .refusedState => 2
  | .refusedBusy => 3
  | .refusedAction => 4
  | .refusedNoDirectory => 5
  | .inspectDone => 6
  | .inspectFailed => 7

/-- Device state codes (R166). -/
def DevState.code : DevState → Nat
  | .run => 0
  | .holding => 1
  | .held => 2

/-- Policy codes: 2 and 3 are both HALT (R139). -/
def Policy.ofCode : Nat → Policy
  | 0 => .count
  | 1 => .notice
  | _ => .halt

/-! ## The lane entry (R174) -/

/-- Where lane i's entry begins: DIR_BASE + 64 × i (R174). -/
def laneEntry (base : Addr) (i : LaneId) : Addr := base + BitVec.ofNat 64 (64 * i.val)

/-- The resume point field, offset 0x18. -/
def resumePointAddr (base : Addr) (i : LaneId) : Addr := laneEntry base i + 0x18

/-- The rest state field with its zero bytes, offset 0x20. -/
def restStateAddr (base : Addr) (i : LaneId) : Addr := laneEntry base i + 0x20

/-- The notice slot, offset 0x28. -/
def noticeSlotAddr (base : Addr) (i : LaneId) : Addr := laneEntry base i + 0x28

/-- The 8 bytes of a rest state write: the code and seven zero bytes (R174). -/
def restStateBytes (r : RestState) : List Byte := leBytes 8 r.code

/-- The 24 bytes of a notice slot (R174). -/
def Notice.bytes (n : Notice) : List Byte :=
  leBytes 8 n.addr.toNat ++ leBytes 3 n.tag.toNat ++ leBytes 1 n.outcome.code ++ leBytes 1 n.reason.code
    ++ leBytes 1 n.rest.code ++ leBytes 2 n.notes.toNat ++ leBytes 4 n.progress ++ leBytes 4 0

/-- The 8 bytes of a status area (R99, R175). -/
def statusBytes (r : RecResult) : List Byte :=
  leBytes 1 r.outcome.code ++ leBytes 1 r.reason.code ++ leBytes 2 r.notes.toNat ++ leBytes 4 r.progress

/-- The 20 bytes of an EMIT record's result fields, with the none values 2^64 − 1 and 2^32 − 1 (R58, R176). The count and
the first difference are those of the execution state, whatever the compare flag now reads (log 34). -/
def resultBytes (x : ExecState) : List Byte :=
  leBytes 4 x.areaOff ++ leBytes 4 x.diffCount
    ++ (match x.firstDiff with
        | some (k, off) => leBytes 8 k ++ leBytes 4 off
        | none => leBytes 8 (2 ^ 64 - 1) ++ leBytes 4 (2 ^ 32 - 1))

/-! ## The record header and gate (R175) -/

/-- The header that a 16-byte header read returns: bytes 0 to 6 (R175). -/
def Header.ofBits (h : BitVec 128) : Header :=
  { kind := RecKind.ofCode (h.extractLsb' 0 8).toNat
    notify := h.getLsbD 8
    gated := h.getLsbD 9
    len := (h.extractLsb' 16 16).toNat
    tag := h.extractLsb' 32 24 }

/-- R97: a GATED flag on a LINK or STOP is ignored. -/
def Header.hasGate (h : Header) : Bool :=
  h.gated && decide (h.kind ≠ some .link) && decide (h.kind ≠ some .stop)

/-- Fixed body sizes (R176). -/
def RecKind.bodySize : RecKind → Nat
  | .openRec => 48
  | .closeRec => 0
  | .cues => 16
  | .cue => 0
  | .emit => 48
  | .clip => 32
  | .mix => 24
  | .mark => 0
  | .link => 8
  | .stop => 0

/-- R97: what makes a header BAD_RECORD. -/
def Header.bad (h : Header) (a : Addr) : Bool :=
  match h.kind with
  | none => true
  | some k =>
    decide (h.len < 16) || decide (512 < h.len) || decide (h.len % 8 ≠ 0)
      || decide (h.len < 16 + (if h.hasGate then 16 else 0) + k.bodySize)
      || decide (2 ^ 64 - 1 < a.toNat + h.len)

/-- R98: the record kind against the lane's kind. -/
def kindCheck (lk : LaneKind) (rk : RecKind) : Option Reason :=
  match rk with
  | .openRec => if lk = .none then none else some .laneOpen
  | .closeRec => if lk = .none then some .laneClosed else none
  | .cues | .cue | .emit =>
    match lk with
    | .none => some .laneClosed
    | .subtitle => none
    | .description => some .wrongKind
  | .clip | .mix =>
    match lk with
    | .none => some .laneClosed
    | .subtitle => some .wrongKind
    | .description => none
  | .mark | .link | .stop => none

/-- A record's kind, when the lane holds one. -/
def Record.kind (c : Record) : Option RecKind := c.hdr.bind Header.kind

/-- A record's tag; 0 when held by its address alone (R153). -/
def Record.tag (c : Record) : BitVec 24 :=
  match c.hdr with
  | some h => h.tag
  | none => 0

/-- A record's NOTIFY flag; clear when held by its address alone. -/
def Record.notify (c : Record) : Bool :=
  match c.hdr with
  | some h => h.notify
  | none => false

/-- A record's length field. -/
def Record.len (c : Record) : Nat :=
  match c.hdr with
  | some h => h.len
  | none => 0

/-- Whether a gate extension stands before the body (R175). -/
def Record.hasGate (c : Record) : Bool :=
  match c.hdr with
  | some h => h.hasGate
  | none => false

/-- The record's bytes from its body on (R175). -/
def Record.fields (c : Record) : List Byte := if c.hasGate then c.body.drop 16 else c.body

/-- Where the record's body begins in host memory (R175). -/
def Record.bodyAddr (c : Record) : Addr := c.addr + (if c.hasGate then 32 else 16)

/-- Gate word address (R175). -/
def Record.gateAddr (c : Record) : Addr := BitVec.ofNat 64 (leField c.body 0 8)

/-- Gate value (R175). -/
def Record.gateValue (c : Record) : BitVec 32 := BitVec.ofNat 32 (leField c.body 8 4)

/-- Gate timeout in ms; 0 means no limit (R175). -/
def Record.gateTimeout (c : Record) : Nat := leField c.body 12 2

/-! ## Record bodies (R176) -/

/-- The fields of an OPEN body. -/
structure OpenBody where
  kind       : Nat
  forcedOnly : Bool
  chans      : Nat
  duckMask   : BitVec 8
  ds         : Nat
  cps10      : Nat
  ns         : Nat
  rOut       : Nat
  offset     : Int
  grid       : Nat
  segDur     : Nat
  startPt    : Nat
  dMin       : Nat
  policy     : Nat
  quota      : Nat
  deriving DecidableEq, Repr

/-- R176, OPEN; the offset O is two's-complement (R173). -/
def OpenBody.ofBytes (b : List Byte) : OpenBody :=
  { kind := leField b 0 1
    forcedOnly := (byteAt b 1).getLsbD 0
    chans := leField b 2 1
    duckMask := byteAt b 3
    ds := leField b 4 2
    cps10 := leField b 6 2
    ns := leField b 8 4
    rOut := leField b 12 4
    offset := (BitVec.ofNat 64 (leField b 16 8)).toInt
    grid := leField b 24 4
    segDur := leField b 28 4
    startPt := leField b 32 4
    dMin := leField b 36 4
    policy := leField b 40 4
    quota := leField b 44 2 }

/-- The fields of a CUES body. -/
structure CuesBody where
  addr    : Addr
  byteLen : Nat
  count   : Nat
  deriving DecidableEq, Repr

/-- R176, CUES. -/
def CuesBody.ofBytes (b : List Byte) : CuesBody :=
  { addr := BitVec.ofNat 64 (leField b 0 8), byteLen := leField b 8 4, count := leField b 12 2 }

/-- The fields of an EMIT body that the part reads. -/
structure EmitBody where
  through : Nat
  area    : Addr
  cap     : Nat
  all     : Bool
  compare : Bool
  deriving DecidableEq, Repr

/-- R176, EMIT. -/
def EmitBody.ofBytes (b : List Byte) : EmitBody :=
  { through := leField b 0 8
    area := BitVec.ofNat 64 (leField b 8 8)
    cap := leField b 16 4
    all := (byteAt b 20).getLsbD 0
    compare := (byteAt b 20).getLsbD 1 }

/-- The fields of a CLIP body. -/
structure ClipBody where
  pcm     : Addr
  time    : Nat
  mask    : BitVec 8
  len     : Nat
  gain    : Nat
  duck    : Nat
  attack  : Nat
  release : Nat
  deriving DecidableEq, Repr

/-- R176, CLIP. -/
def ClipBody.ofBytes (b : List Byte) : ClipBody :=
  { pcm := BitVec.ofNat 64 (leField b 0 8)
    time := leField b 8 6
    mask := byteAt b 14
    len := leField b 16 3
    gain := leField b 20 2
    duck := leField b 22 2
    attack := leField b 24 2
    release := leField b 26 2 }

/-- The fields of a MIX body. -/
structure MixBody where
  prog   : Addr
  out    : Addr
  frames : Nat
  deriving DecidableEq, Repr

/-- R176, MIX. -/
def MixBody.ofBytes (b : List Byte) : MixBody :=
  { prog := BitVec.ofNat 64 (leField b 0 8)
    out := BitVec.ofNat 64 (leField b 8 8)
    frames := leField b 16 3 }

/-- R176, LINK: the target address. -/
def linkTarget (b : List Byte) : Addr := BitVec.ofNat 64 (leField b 0 8)

/-! ## The cue entry (R177) -/

/-- Source start. -/
def cueSrcStart (c : RawCue) : Nat := (c.fixed.extractLsb' 0 48).toNat

/-- Source end. -/
def cueSrcEnd (c : RawCue) : Nat := (c.fixed.extractLsb' 48 48).toNat

/-- Position slot: the field's low three bits. -/
def cueSlot (c : RawCue) : BitVec 3 := c.fixed.extractLsb' 96 3

/-- Forced flag: bit 7 of byte 12. -/
def cueForced (c : RawCue) : Bool := c.fixed.getLsbD 103

/-- Style: the field's low four bits. -/
def cueStyle (c : RawCue) : BitVec 4 := c.fixed.extractLsb' 104 4

/-- Text length, 0 to 65,535. -/
def cueTextLen (c : RawCue) : Nat := (c.fixed.extractLsb' 112 16).toNat

/-- An entry's size: 16 bytes and the padded text. -/
def cueSize (c : RawCue) : Nat := 16 + round8 (cueTextLen c)

/-- The inline cue of a CUE record (R28). -/
def inlineCue (b : List Byte) : RawCue :=
  let fixed : BitVec 128 := BitVec.ofNat 128 (leNat (b.take 16))
  { fixed := fixed, text := (b.drop 16).take (fixed.extractLsb' 112 16).toNat }

end Sys2Proof.Machine
end

