-- ==== Sys2Proof/Machine/Flags.lean ====
section
/-! DEFINITION. Notes: indices, note bits, counters, policies, crediting (manual chapter 8, R135 to R141). -/

namespace Sys2Proof.Machine

open Sys2Proof

/-- The index of a note kind (manual section 8.1). -/
def NoteKind.idx : NoteKind → Fin 14
  | .beforeZero => 0
  | .outOfOrder => 1
  | .late => 2
  | .extended => 3
  | .trimmed => 4
  | .fastRead => 5
  | .textCut => 6
  | .crowded => 7
  | .emptyCue => 8
  | .differs => 9
  | .range => 10
  | .clipped => 11
  | .filtered => 12
  | .leftover => 13

/-- R136: the note bit of a kind; bits 14 and 15 are never set. -/
def NoteKind.bit (k : NoteKind) : BitVec 16 := 1#16 <<< k.idx.val

/-- R139: the policy that governs a note kind. -/
def Params.policyOf (p : Params) (k : NoteKind) : Policy := p.policy.get k.idx

/-- R139, R176: the policy table of an OPEN record: entry i in bits 2i + 1 and 2i; entries 14 and 15 are not held. -/
def policyTable (field : Nat) : Vector Policy 14 :=
  Vector.ofFn (fun i : Fin 14 => Policy.ofCode (field / 4 ^ i.val % 4))

/-- R137: one credited arising adds 1 to its kind's counter, which saturates. -/
def countOne (v : Vector Nat 14) (k : NoteKind) : Vector Nat 14 := v.set k.idx.val (satAdd (v.get k.idx) 1) k.idx.isLt

/-- R135, R137: the counters after arisings are credited. -/
def countAll (v : Vector Nat 14) (ns : List NoteKind) : Vector Nat 14 := ns.foldl countOne v

/-- R136: the note bits after arisings are credited. -/
def markAll (b : BitVec 16) (ns : List NoteKind) : BitVec 16 := ns.foldl (fun b k => b ||| k.bit) b

/-- R140: whether the arisings credited include a kind whose policy is HALT. -/
def haltCalled (p : Params) (ns : List NoteKind) : Bool := ns.any (fun k => decide (p.policyOf k = .halt))

/-- All note kinds, in index order. -/
def NoteKind.all : List NoteKind :=
  [.beforeZero, .outOfOrder, .late, .extended, .trimmed, .fastRead, .textCut, .crowded, .emptyCue, .differs, .range,
   .clipped, .filtered, .leftover]

/-- R141, second case: a note bit of the status belongs to a kind whose policy is NOTICE. -/
def noticePolicyHit (p : Params) (notes : BitVec 16) : Bool :=
  NoteKind.all.any (fun k => notes.getLsbD k.idx.val && decide (p.policyOf k = .notice))

/-- R141: whether a retirement calls for a notice. -/
def noticeCalled (p : Params) (notify : Bool) (r : RecResult) : Bool :=
  notify || noticePolicyHit p r.notes || decide (r.outcome = .failed) || decide (r.outcome = .halted)

/-- R109, R136: the outcome of a record whose work is complete. -/
def completed (notes : BitVec 16) : RecOutcome := if notes = 0 then .done else .noted

/-- R114: the outcomes that are final: all but FAILED and HALTED. -/
def RecOutcome.final : RecOutcome → Bool
  | .failed => false
  | .halted => false
  | .done => true
  | .noted => true
  | .partialDone => true
  | .skipped => true
  | .abandoned => true
  | .stopped => true

/-- The execution state after arisings are credited (R136). -/
def ExecState.mark (x : ExecState) (ns : List NoteKind) : ExecState := { x with notes := markAll x.notes ns }

/-- A record with its execution state changed. -/
def Record.withEx (c : Record) (f : ExecState → ExecState) : Record := { c with ex := f c.ex }

/-- A lane with its current record's execution state changed; a lane without a current record is unchanged. -/
def Lane.withEx (l : Lane) (f : ExecState → ExecState) : Lane := { l with cur := l.cur.map (fun c => c.withEx f) }

/-- R135: crediting adds to the lane's counters and sets the bits of the record that made the arisings. -/
def Lane.credit (l : Lane) (ns : List NoteKind) : Lane :=
  { l with counters := countAll l.counters ns, cur := l.cur.map (fun c => c.withEx (fun x => x.mark ns)) }

end Sys2Proof.Machine
end

