-- ==== Sys2Proof/Machine/Times.lean ====
section
/-! DEFINITION. The time arithmetic of chapter 1: conversion, offset, snapping, segments, reading speed. -/

namespace Sys2Proof.Machine

open Sys2Proof

/-- R4: source time to output time, the nearest whole tick, a tie to the later one. -/
def convertTime (p : Params) (t : Nat) : Nat := (2 * t * p.ds * p.rOut + p.ns) / (2 * p.ns)

/-- R5: the offset is added and the upper clamp applied; the flag says that a RANGE arose. -/
def placeTime (p : Params) (t : Nat) : Int × Bool :=
  let x : Int := (convertTime p t : Int) + p.offset
  if (maxTime : Int) < x then ((maxTime : Int), true) else (x, false)

/-- R6: the nearest multiple of G, a tie to the later one; G = 0 leaves the time unchanged. -/
def snapNearest (g v : Nat) : Nat :=
  if g = 0 then v
  else
    let q := v / g
    let r := v - q * g
    if g ≤ 2 * r then (q + 1) * g else q * g

/-- R6, R7: the snapped time; the flag says that R7 replaced it. -/
def snapTime (g v : Nat) : Nat × Bool :=
  let w := snapNearest g v
  if maxTime < w then (maxTime / g * g, true) else (w, false)

/-- R12: the horizon, next_segment × S. -/
def Lane.horizon (l : Lane) : Nat := l.nextSeg * l.par.segDur

/-- R13: a continuation byte, 0x80 to 0xBF. -/
def isContinuation (b : Byte) : Bool := decide (0x80 ≤ b.toNat) && decide (b.toNat ≤ 0xBF)

/-- R13: the bytes of a text that are neither a continuation byte nor a line feed. -/
def charCount (text : List Byte) : Nat := (text.filter (fun b => !isContinuation b && decide (b.toNat ≠ 0x0A))).length

/-- R14: ceil(c × R_out × 10 / cps10), or 0 when the check is off. -/
def readingTicks (p : Params) (c : Nat) : Nat :=
  if p.cps10 = 0 then 0 else (c * p.rOut * 10 + (p.cps10 - 1)) / p.cps10

/-- R15: the required duration of a cue with character count c. -/
def requiredTicks (p : Params) (c : Nat) : Nat := max p.dMin (readingTicks p c)

end Sys2Proof.Machine
end

