-- ==== Sys2Proof/Machine/Cues.lean ====
section
/-! DEFINITION. The cue store and the insertion pipeline of chapter 2, stage by stage, and the intake of a batch. -/

namespace Sys2Proof.Machine

open Sys2Proof

/-! ## Intake (R26, R27) -/

/-- R26, R27: reads up to `n` cues of a block from the byte offset `off` against the block's byte length. The answer is
the batch and whether an overrunning cue ended it. It is none when the chunks given are not what this read asks for, so
that they are not this read's completion (log 23). A cue whose text overruns stands last among the chunks, for the text
length in its fixed part, and is no part of the batch (log 32). -/
def takeBatch (byteLen : Nat) : Nat → Nat → List RawCue → Option (List RawCue × Bool)
  | 0, _, [] => some ([], false)
  | 0, _, _ :: _ => none
  | n + 1, off, chunks =>
    if byteLen < off + 16 then
      if chunks.isEmpty then some ([], true) else none
    else match chunks with
      | [] => none
      | c :: rest =>
        if byteLen < off + 16 + cueTextLen c then
          if rest.isEmpty then some ([], true) else none
        else if c.text.length = min (cueTextLen c) 241 then
          match takeBatch byteLen n (off + cueSize c) rest with
          | some (cs, ended) => some (c :: cs, ended)
          | none => none
        else none

/-! ## The stages before allocation -/

/-- What the pipeline stages before allocation make of a cue: dropped, or gone on with its start, end and cut text. -/
inductive Prep where
  | drop
  | pass (start stop : Nat) (text : List Byte)
  deriving DecidableEq, Repr

/-- R31: the largest n from 0 to the bound for which n is 0 or the byte at offset n is no continuation byte. -/
def cutPoint (text : List Byte) : Nat → Nat
  | 0 => 0
  | n + 1 => if isContinuation (byteAt text (n + 1)) then cutPoint text n else n + 1

/-- R31: the text cut; the flag says that TEXT_CUT arose. -/
def textCut (c : RawCue) : List Byte × Bool :=
  if cueTextLen c ≤ 240 then (c.text, false) else (c.text.take (cutPoint c.text 240), true)

/-- One note when the condition holds. -/
def noteIf (b : Bool) (k : NoteKind) : List NoteKind := if b then [k] else []

/-- R35, R36: the empty check and the extension of a cue with its required duration. -/
def extendCue (p : Params) (start stop : Nat) (text : List Byte) : Prep × List NoteKind :=
  let req := requiredTicks p (charCount text)
  if stop ≤ start ∧ req = 0 then (.drop, [.emptyCue])
  else if start + req ≤ stop then (.pass start stop text, [])
  else if start + req ≤ maxTime then (.pass start (start + req) text, [.extended])
  else if start < maxTime then (.pass start maxTime text, [.extended, .range])
  else (.drop, [.range, .emptyCue])

/-- R34, then R35 and R36: the late clamp against the horizon `h`, the empty check and the extension. -/
def lateClamp (p : Params) (h start stop : Nat) (text : List Byte) : Prep × List NoteKind :=
  if h ≤ start then extendCue p start stop text
  else if stop ≤ h then (.drop, [.late])
  else
    let r := extendCue p h stop text
    (r.1, .late :: r.2)

/-- R30 to R36: stages 1 to 9 for one cue against last_start and the horizon. The answer is what becomes of the cue, the
notes that arose, and last_start as stage 6 leaves it (R33). -/
def prepareCue (p : Params) (h lastStart : Nat) (c : RawCue) : Prep × List NoteKind × Nat :=
  if p.forcedOnly && !cueForced c then (.drop, [.filtered], lastStart)
  else
    let cut := textCut c
    let n2 := noteIf cut.2 .textCut
    let cs := placeTime p (cueSrcStart c)
    let ce := placeTime p (cueSrcEnd c)
    let n3 := noteIf cs.2 .range ++ noteIf ce.2 .range
    if ce.1 ≤ 0 then (.drop, n2 ++ n3 ++ [.beforeZero], lastStart)
    else
      let n4 := noteIf (decide (cs.1 < 0)) .beforeZero
      let ss := snapTime p.grid cs.1.toNat
      let se := snapTime p.grid ce.1.toNat
      let n5 := noteIf (ss.2 && !cs.2) .range ++ noteIf (se.2 && !ce.2) .range
      let before := n2 ++ n3 ++ n4 ++ n5
      if ss.1 < lastStart then (.drop, before ++ [.outOfOrder], lastStart)
      else
        let r := lateClamp p h ss.1 se.1 cut.1
        (r.1, before ++ r.2, ss.1)

/-! ## Allocation, trim and insertion -/

/-- R18: the Store Manager's judgement of a request for one place. -/
def poolGrants (held quota free : Nat) : Bool := decide (held < quota) && decide (0 < free)

/-- Whether an entry is its slot's latest reference for a position slot (R23). -/
def CueEntry.isLatest (e : CueEntry) (slot : BitVec 3) : Bool := e.latest && decide (e.slot = slot)

/-- R38: the trim stage against the slot's latest entry: the store, the notes that arose, and how many slots were freed. -/
def trimPredecessor (p : Params) (slot : BitVec 3) (start : Nat) : List CueEntry → List CueEntry × List NoteKind × Nat
  | [] => ([], [], 0)
  | e :: rest =>
    if e.isLatest slot then
      if e.stop ≤ start then (e :: rest, [], 0)
      else if e.start = start then (rest, [.trimmed], 1)
      else
        let short := decide (start - e.start < requiredTicks p e.chars)
        ({ e with stop := start } :: rest, .trimmed :: noteIf short .fastRead, 0)
    else
      let r := trimPredecessor p slot start rest
      (e :: r.1, r.2.1, r.2.2)

/-- R39: the arrival becomes its slot's latest reference, at the tail of the store. -/
def insertCue (store : List CueEntry) (c : RawCue) (start stop : Nat) (text : List Byte) : List CueEntry :=
  store.map (fun e => if e.slot = cueSlot c then { e with latest := false } else e)
    ++ [{ start := start, stop := stop, slot := cueSlot c, style := cueStyle c, forced := cueForced c, text := text
          chars := charCount text, continued := false, latest := true }]

/-- What a CUES or CUE unit holds while it passes its batch through the pipeline (R29). -/
structure CueWork where
  store     : List CueEntry
  lastStart : Nat
  free      : Nat
  notes     : List NoteKind
  consumed  : Nat
  cursor    : Nat
  refused   : Bool
  deriving DecidableEq, Repr

/-- R30 to R39: one cue through the twelve stages. -/
def passCue (p : Params) (h : Nat) (w : CueWork) (c : RawCue) : CueWork :=
  let r := prepareCue p h w.lastStart c
  match r.1 with
  | .drop =>
    { w with lastStart := r.2.2, notes := w.notes ++ r.2.1, consumed := w.consumed + 1, cursor := w.cursor + cueSize c }
  | .pass start stop text =>
    if poolGrants w.store.length p.quota w.free then
      let t := trimPredecessor p (cueSlot c) start w.store
      { w with
        store := insertCue t.1 c start stop text
        lastStart := r.2.2
        free := w.free - 1 + t.2.2
        notes := w.notes ++ r.2.1 ++ t.2.1
        consumed := w.consumed + 1
        cursor := w.cursor + cueSize c }
    else { w with lastStart := r.2.2, refused := true }

/-- R29: the unit passes the batch in block order, and ends before a cue that is refused a slot (R37). -/
def passBatch (p : Params) (h : Nat) : CueWork → List RawCue → CueWork
  | w, [] => w
  | w, c :: cs =>
    let w' := passCue p h w c
    if w'.refused then w' else passBatch p h w' cs

/-- R29: the unit of a lane on its batch, against the pool's free count. -/
def cueUnit (l : Lane) (x : ExecState) (free : Nat) (batch : List RawCue) : CueWork :=
  passBatch l.par l.horizon
    { store := l.store, lastStart := l.lastStart, free := free, notes := [], consumed := 0, cursor := x.cursor
      refused := false } batch

end Sys2Proof.Machine
end

