-- ==== Sys2Proof/Machine/Clips.lean ====
section
/-! DEFINITION. Description clips: placement, the late and crowding tests, insertion, the duck envelope (chapter 4). -/

namespace Sys2Proof.Machine

open Sys2Proof

/-- R68: what makes a CLIP body BAD_PARAM. -/
def ClipBody.bad (b : ClipBody) : Bool := !aligned b.pcm 2 || decide (b.len = 0)

/-- R71: two bodies overlap when each begins before the other ends. -/
def ClipEntry.overlaps (e : ClipEntry) (s len : Nat) : Bool := decide (e.start < s + len) && decide (s < e.start + e.len)

/-- R71: how many bodies of the table a body overlaps. -/
def overlapCount (table : List ClipEntry) (s len : Nat) : Nat := (table.filter (fun e => e.overlaps s len)).length

/-- R70: the start sample of a clip, and the notes of its placement. -/
def placeClip (p : Params) (t : Nat) : Nat × List NoteKind :=
  let r := placeTime p t
  (r.1.toNat, noteIf r.2 .range ++ noteIf (decide (r.1 < 0)) .beforeZero)

/-- R73: the entry a CLIP record inserts at start sample s, with its two gains clamped. -/
def ClipBody.entry (b : ClipBody) (s : Nat) : ClipEntry :=
  { pcm := b.pcm, len := b.len, start := s, gain := min b.gain 32767, duck := min b.duck 16384, attack := b.attack
    release := b.release, mask := b.mask }

/-- R67, R73: directly after the last entry whose start is at or below the new one's, or at the head. The table is in
start order, so this is before the first entry that starts later. -/
def insertClip (e : ClipEntry) : List ClipEntry → List ClipEntry
  | [] => [e]
  | x :: xs => if e.start < x.start then e :: x :: xs else x :: insertClip e xs

/-- R69: how a CLIP unit ends: the clip is consumed and dropped, refused an entry, or inserted. -/
inductive ClipEnd where
  | dropped (notes : List NoteKind)
  | refused
  | inserted (e : ClipEntry) (notes : List NoteKind)
  deriving DecidableEq, Repr

/-- R69 to R73: a CLIP unit of a lane on its clip, against the pool's free count. -/
def clipUnit (l : Lane) (b : ClipBody) (free : Nat) : ClipEnd :=
  let pl := placeClip l.par b.time
  let s := pl.1
  if s + b.len ≤ l.mixPos then .dropped (pl.2 ++ [.late])
  else
    let notes := pl.2 ++ noteIf (decide ((s : Int) - b.attack < l.mixPos)) .late
    if 4 ≤ overlapCount l.table s b.len then .dropped (notes ++ [.crowded])
    else if poolGrants l.table.length l.par.quota free then .inserted (b.entry s) notes
    else .refused

/-! ## The duck envelope (R75, R76) -/

/-- R75: the envelope of one clip at sample n. -/
def ClipEntry.envelope (e : ClipEntry) (n : Nat) : Nat :=
  if n + e.attack < e.start then 16384
  else if n < e.start then 16384 - (16384 - e.duck) * (n + e.attack - e.start) / e.attack
  else if n < e.start + e.len then e.duck
  else if n < e.start + e.len + e.release then e.duck + (16384 - e.duck) * (n - e.start - e.len) / e.release
  else 16384

/-- R76: the programme envelope, the smallest over the table, or 16,384 when it is empty. -/
def duckEnvelope (view : List ClipEntry) (n : Nat) : Nat := view.foldl (fun m e => min m (e.envelope n)) 16384

/-- R66: finished once m is at or after the end of the release. -/
def ClipEntry.finished (e : ClipEntry) (m : Nat) : Bool := decide (e.start + e.len + e.release ≤ m)

end Sys2Proof.Machine
end

