-- ==== Sys2Proof/Machine/Mixing.lean ====
section
/-! DEFINITION. Blocks, the programme queue, and the mix arithmetic (chapter 5). -/

namespace Sys2Proof.Machine

open Sys2Proof

/-- R79: what makes a MIX body BAD_PARAM on a lane, with the progress P the record holds. -/
def MixBody.bad (b : MixBody) (m p : Nat) : Bool :=
  !aligned b.prog 2 || !aligned b.out 2 || decide (b.frames = 0) || decide (maxTime + p < m + b.frames)

/-- R80: the frame count of the block that begins at frame `off` of a record of `f` frames: up to the next multiple of
1,024 or the record's end (log 17). -/
def blockCount (off f : Nat) : Nat := min ((off / Config.blockFrames + 1) * Config.blockFrames) f - off

/-- R80, R82: where frame `off` of an area lies, modulo 2^64 (log 33). -/
def frameAddr (area : Addr) (chans off : Nat) : Addr := area + BitVec.ofNat 64 (2 * (off * chans))

/-! ## The queue -/

/-- R83, R85: a block joins the tail; at 3 blocks the pause flag sets. -/
def Prefetch.join (p : Prefetch) (b : QBlock) : Prefetch :=
  let q := p.queue ++ [b]
  { p with queue := q, paused := p.paused || decide (Config.queueMax ≤ q.length), outstanding := .none }

/-- R84: the head leaves; with 1 block or none left the pause flag clears. -/
def Prefetch.popHead (p : Prefetch) : Prefetch :=
  { p with queue := p.queue.tail, paused := p.paused && decide (1 < p.queue.tail.length) }

/-- A live read made stale (R86, R125). -/
def BlockRead.makeStale : BlockRead → BlockRead
  | .live _ _ => .stale
  | .stale => .stale
  | .none => .none

/-- R86: the queue is discarded. -/
def Prefetch.discard (p : Prefetch) : Prefetch :=
  { queue := [], paused := false, cursor := 0, outstanding := p.outstanding.makeStale, stopped := false }

/-! ## Clip runs (R88) -/

/-- R88: whether a channel mask has a bit set below C. -/
def maskBelow (mask : BitVec 8) (c : Nat) : Bool := (List.range c).any (fun ch => mask.getLsbD ch)

/-- R88: the entries of a view whose samples the block [n0, n0 + k) needs. -/
def neededClips (view : List ClipEntry) (c n0 k : Nat) : List ClipEntry :=
  view.filter (fun e => e.overlaps n0 k && maskBelow e.mask c)

/-- R88: the first clip sample of an entry's run in the block. -/
def runFirst (e : ClipEntry) (n0 : Nat) : Nat := max n0 e.start - e.start

/-- R88: how many clip samples the run has. -/
def runCount (e : ClipEntry) (n0 k : Nat) : Nat := min (n0 + k) (e.start + e.len) - max n0 e.start

/-- R88: whether the byte strings given are the runs that the block needs, in table order. -/
def runsFit (need : List ClipEntry) (n0 k : Nat) (runs : List (List Byte)) : Bool :=
  decide (runs.map List.length = need.map (fun e => 2 * runCount e n0 k))

/-! ## The mix (R89, R90) -/

/-- R89: what one clip run adds to channel ch at sample n of the block that begins at n0. -/
def clipTerm (n0 n ch : Nat) (r : ClipEntry × List (BitVec 16)) : Int :=
  if r.1.start ≤ n ∧ n < r.1.start + r.1.len ∧ r.1.mask.getLsbD ch = true then
    (r.2.getD (n - max n0 r.1.start) 0).toInt * r.1.gain
  else 0

/-- R89: the gain on the programme: e(n) on a channel whose duck mask bit is set, else unity. -/
def progGain (p : Params) (view : List ClipEntry) (n ch : Nat) : Nat :=
  if p.duckMask.getLsbD ch then duckEnvelope view n else 16384

/-- R89: the accumulator of channel ch at frame f of the block. -/
def mixOne (p : Params) (view : List ClipEntry) (runs : List (ClipEntry × List (BitVec 16)))
    (samples : List (BitVec 16)) (n0 f ch : Nat) : Int :=
  (samples.getD (f * p.chans + ch) 0).toInt * progGain p view (n0 + f) ch
    + (runs.map (clipTerm n0 (n0 + f) ch)).sum

/-- R89: the accumulators of a block of k frames, frame by frame, channel 0 first. -/
def mixBlock (p : Params) (view : List ClipEntry) (runs : List (ClipEntry × List (BitVec 16)))
    (samples : List (BitVec 16)) (n0 k : Nat) : List Int :=
  ((List.range k).map (fun f => (List.range p.chans).map (fun ch => mixOne p view runs samples n0 f ch))).flatten

/-- R90: an accumulator divided by unity gain and rounded, a tie to the greater integer. -/
def roundAcc (acc : Int) : Int := (acc + 8192) / 16384

/-- R90: the sample written. -/
def saturate (x : Int) : Int := if 32767 < x then 32767 else if x < -32768 then -32768 else x

/-- R90: whether a channel sample is saturated. -/
def isClipped (acc : Int) : Bool := decide (32767 < roundAcc acc) || decide (roundAcc acc < -32768)

/-- R90, R91: the bytes of the mixed block. -/
def mixedBytes (acc : List Int) : List Byte := (acc.map (fun a => sampleBytes (saturate (roundAcc a)))).flatten

/-- R90: the CLIPPED arisings of a unit, one for each saturated channel sample. -/
def clippedNotes (acc : List Int) : List NoteKind := List.replicate (acc.filter isClipped).length .clipped

/-- R91: the lane at the completion of a Mix unit of k frames. -/
def Lane.completeBlock (l : Lane) (k : Nat) (notes : List NoteKind) : Lane :=
  ({ l with
     mixPos := l.mixPos + k
     frmTotal := satAdd l.frmTotal k
     pf := l.pf.popHead
     table := l.table.filter (fun e => !e.finished (l.mixPos + k)) }.withEx
      (fun x => { x with progress := x.progress + k })).credit notes

/-- R91: how many clip entries the completion frees. -/
def Lane.freedByBlock (l : Lane) (k : Nat) : Nat :=
  l.table.length - (l.table.filter (fun e => !e.finished (l.mixPos + k))).length

end Sys2Proof.Machine
end

