-- ==== Sys2Proof/Machine/Segments.lean ====
section
/-! DEFINITION. Segments: extent, building, bytes and completion (chapter 3, R178). -/

namespace Sys2Proof.Machine

open Sys2Proof

/-- R42: what makes an EMIT area BAD_PARAM. -/
def EmitBody.badArea (b : EmitBody) : Bool :=
  !aligned b.area 8 || decide (b.cap < 8) || decide (4294967288 < b.cap) || decide (b.cap % 8 ≠ 0)

/-- The largest end of any entry of a store (R43). -/
def largestEnd (store : List CueEntry) : Nat := store.foldl (fun m e => max m e.stop) 0

/-- R43: the through-index; none when ALL is set and the store is empty. -/
def throughIndex (l : Lane) (b : EmitBody) : Option Nat :=
  if b.all then
    if l.store.isEmpty then none else some ((largestEnd l.store - 1) / l.par.segDur)
  else some b.through

/-- R47: eligible for the segment with bounds b0 and b1. -/
def CueEntry.eligible (b0 b1 : Nat) (e : CueEntry) : Bool := decide (e.start < b1) && decide (b0 < e.stop)

/-- R48: the entries that give pieces. -/
def pieceEntries (b0 b1 : Nat) (store : List CueEntry) : List CueEntry :=
  (store.filter (CueEntry.eligible b0 b1)).take Config.pieceMax

/-- R48: how many eligible entries are left out. -/
def leftOut (b0 b1 : Nat) (store : List CueEntry) : Nat :=
  (store.filter (CueEntry.eligible b0 b1)).length - Config.pieceMax

/-- R49: the piece flags FROM_PREV, CONTINUES and FORCED. -/
def pieceFlags (b0 b1 : Nat) (e : CueEntry) : Nat :=
  (if e.start < b0 then 1 else 0) + (if b1 < e.stop then 2 else 0) + (if e.forced then 4 else 0)

/-- R49, R178: the bytes of one piece. -/
def pieceBytes (b0 b1 : Nat) (e : CueEntry) : List Byte :=
  leBytes 4 (max e.start b0 - b0) ++ leBytes 4 (min e.stop b1 - b0) ++ leBytes 1 (pieceFlags b0 b1 e)
    ++ leBytes 1 e.slot.toNat ++ leBytes 1 e.style.toNat ++ leBytes 1 0 ++ leBytes 2 e.text.length ++ leBytes 2 0
    ++ padded e.text

/-- R51: the size of a segment with the pieces given. -/
def segmentSize (pieces : List CueEntry) : Nat := 48 + (pieces.map (fun e => 16 + round8 e.text.length)).sum

/-- R50, R178: the bytes of segment k of a lane. -/
def segmentBytes (p : Params) (k : Nat) (store : List CueEntry) : List Byte :=
  let b0 := k * p.segDur
  let b1 := (k + 1) * p.segDur
  let pieces := pieceEntries b0 b1 store
  leBytes 4 0x24400001 ++ leBytes 4 (segmentSize pieces) ++ leBytes 2 pieces.length ++ leBytes 2 (leftOut b0 b1 store)
    ++ leBytes 4 p.rOut ++ leBytes 8 k ++ leBytes 8 b0 ++ leBytes 4 p.segDur ++ leBytes 12 0
    ++ (pieces.map (pieceBytes b0 b1)).flatten

/-- R53: the first `n` eligible entries get their continued flag set. -/
def markPieces (b0 b1 : Nat) : Nat → List CueEntry → List CueEntry
  | _, [] => []
  | 0, es => es
  | n + 1, e :: es =>
    if e.eligible b0 b1 then { e with continued := true } :: markPieces b0 b1 n es else e :: markPieces b0 b1 (n + 1) es

/-- R54: the entries that stay after the segment that ends at b1 is completed. -/
def keepAfter (b1 : Nat) (store : List CueEntry) : List CueEntry := store.filter (fun e => decide (b1 < e.stop))

/-- The position of the first differing byte of two byte strings (R57); none when no byte differs. -/
def firstDiffAt : List Byte → List Byte → Option Nat
  | a :: as, b :: bs => if a = b then (firstDiffAt as bs).map (· + 1) else some 0
  | [], _ => none
  | _ :: _, [] => none

/-- R57: the compare state of a record after a segment differed first at position `d`. -/
def ExecState.differ (x : ExecState) (k d : Nat) : ExecState :=
  { x with
    diffCount := x.diffCount + 1
    firstDiff := if x.diffCount = 0 then some (k, x.areaOff + d) else x.firstDiff }

/-- The notes of a completed EMIT unit: one CROWDED for each entry left out, and DIFFERS when the segment differed. -/
def emitNotes (l : Lane) (differed : Bool) : List NoteKind :=
  List.replicate (leftOut (l.nextSeg * l.par.segDur) ((l.nextSeg + 1) * l.par.segDur) l.store) .crowded
    ++ noteIf differed .differs

/-- R53, R54, R56, R57: the lane at the completion of its segment of `size` bytes, which differed at `diff` if at all. -/
def Lane.completeSegment (l : Lane) (size : Nat) (diff : Option Nat) : Lane :=
  let b0 := l.nextSeg * l.par.segDur
  let b1 := (l.nextSeg + 1) * l.par.segDur
  let step (x : ExecState) : ExecState :=
    let y := match diff with
      | some d => x.differ l.nextSeg d
      | none => x
    { y with progress := y.progress + 1, areaOff := y.areaOff + size }
  ({ l with
     nextSeg := l.nextSeg + 1
     store := keepAfter b1 (markPieces b0 b1 Config.pieceMax l.store)
     segTotal := satAdd l.segTotal 1 }.withEx step).credit (emitNotes l diff.isSome)

/-- R54: how many slots the completion frees. -/
def Lane.freedBySegment (l : Lane) : Nat :=
  l.store.length - (keepAfter ((l.nextSeg + 1) * l.par.segDur) l.store).length

end Sys2Proof.Machine
end

