-- ==== Sys2Proof/Machine/Ops.lean ====
section
/-! DEFINITION. The named operations on the whole state that the steps share: lanes, the link, the Notice Unit, write
sequences, retirement and halts (R109 to R113, R141 to R151, R153 to R156, R160). -/

namespace Sys2Proof.Machine

open Sys2Proof

/-! ## Lanes and the link -/

/-- Lane i's context. -/
def State.lane (s : State) (i : LaneId) : Lane := s.lanes.get i

/-- The state with lane i's context replaced. -/
def State.setLane (s : State) (i : LaneId) (l : Lane) : State := { s with lanes := s.lanes.set i.val l i.isLt }

/-- The state with lane i's context changed. -/
def State.modLane (s : State) (i : LaneId) (f : Lane → Lane) : State := s.setLane i (f (s.lane i))

/-- R166: DEV_CTRL.HOLD is set in HOLDING and in HELD. -/
def State.hold (s : State) : Bool := decide (s.dev ≠ .run)

/-- A write put on the link (log 1). -/
def State.put (s : State) (w : LinkWrite) : State := { s with wire := s.wire ++ [w] }

/-- Every lane, in order. -/
def laneIds : List LaneId := List.finRange 16

/-! ## The Notice Unit -/

/-- R148, R149, R168: the Notice Unit asks for one MSI; it is put on the link when MSI and bus mastering are enabled. -/
def State.askMsi (s : State) : State :=
  let t := { s with msiAsked := s.msiAsked + 1 }
  if s.bus.msiEnable && s.bus.busMaster then t.put (.msi s.bus.msiAddr s.bus.msiData) else t

/-- The one-bit register mask of lane i. -/
def laneBit (i : LaneId) : BitVec 16 := 1#16 <<< i.val

/-- R144, R148: lane i's pending bit is set; a rise under a set mask bit asks for one MSI. -/
def State.raisePend (s : State) (i : LaneId) : State :=
  let t := { s with pend := s.pend ||| laneBit i }
  if !s.pend.getLsbD i.val && s.mask.getLsbD i.val then t.askMsi else t

/-! ## What a lane gives up when it stops working on a record -/

/-- R101: the gate deadline and poll phase are cleared; a poll still outstanding will be ignored (log 9). -/
def Gate.clear (g : Gate) : Gate :=
  { deadline := 0, poll := .none, stale := g.stale || decide (g.poll = .outstanding) }

/-- R26, R86, R153: at a retirement or a halt the programme queue is discarded, the intake buffer emptied, the gate
cleared. -/
def Lane.stopWork (l : Lane) : Lane :=
  { l with pf := l.pf.discard, intake := [], overrun := false, gate := l.gate.clear }

/-! ## Reads -/

/-- R96, R169: the lane is to make a read; it is issued at once unless HOLD is set. -/
def State.startRead (s : State) (i : LaneId) (st : LaneState) (r : LaneRead) : State :=
  s.modLane i (fun l => { l with state := st, io := .read r (!s.hold) })

/-- R118, R124: RESUME carried out: the record is read again from its address, or the directory entry when the lane is
halted on its entry read. -/
def State.resumeNow (s : State) (i : LaneId) : State :=
  s.startRead i .fetching (if (s.lane i).cur.isSome then .header false else .entry)

/-! ## Write sequences (R111) -/

/-- The rest state write of a sequence, only when it differs from the rest state last written (R113). -/
def restStep (s : State) (i : LaneId) (r : RestState) : List SeqStep :=
  if (s.lane i).restLast = r then [] else [.write (.restState r) (restStateAddr s.dirBase i) (restStateBytes r)]

/-- The resume point write of a sequence (R112). -/
def resumeStep (s : State) (i : LaneId) (a : Addr) : SeqStep :=
  .write (.resumePoint a) (resumePointAddr s.dirBase i) (leBytes 8 a.toNat)

/-- The status write, after the result fields of an EMIT (R58, R111). Their addresses wrap modulo 2^64 (log 33). -/
def statusSteps (c : Record) (r : RecResult) : List SeqStep :=
  (if c.kind = some .emit then [.write .results (c.bodyAddr + 24) (resultBytes c.ex)] else [])
    ++ [.write .status (c.addr + 8) (statusBytes r)]

/-- R126, R115: the lane after a teardown: as after device reset but for the rest state last written, and for what
belongs to no lane state: a stale block read, an ignored poll, and the Notice Unit's place. -/
def Lane.tornDown (l : Lane) (failed : Bool) : Lane :=
  { Lane.reset with
    haltReason := if failed then .hostAccess else .none
    restLast := l.restLast
    gate := l.gate.clear
    pf := l.pf.discard
    deferred := l.deferred
    slot := l.slot }

/-- R111, R145: a lane that goes on: it enters FETCHING, or NOTICE_WAIT when its notice was kept as deferred. -/
def State.goOn (s : State) (i : LaneId) (kept : Bool) : State :=
  if kept then s.modLane i (fun l => { l with state := .noticeWait, waitAct := .fetch, io := .idle })
  else s.startRead i .fetching (.header false)

/-- The end of a write sequence (R108, R111, R117, R125, R127); `kept` says that its notice was kept as deferred. -/
def State.finishSeq (s : State) (i : LaneId) (q : WriteSeq) (kept : Bool) : State :=
  if q.kind = .teardown then s.modLane i (fun l => l.tornDown q.failed)
  else if (s.lane i).state = .abandoning then s.modLane i (fun l => { l with io := .idle })
  else match q.kind with
    | .retire r =>
      if r.outcome.final then s.goOn i kept else s.modLane i (fun l => { l with state := .halted, io := .idle })
    | .linkPass => s.goOn i kept
    | .stop =>
      if (s.lane i).state = .stopped then s.modLane i (fun l => { l with io := .idle }) else s.goOn i kept
    | .entryHalt => s.modLane i (fun l => { l with state := .halted, io := .idle })
    | .rehalt => s.modLane i (fun l => { l with state := .halted, io := .idle })
    | .teardown => s

/-- R144, R145, R150: a notice is handed to the Notice Unit. While a slot write of the lane is in flight the Notice Unit
waits for its end (R150, R167; log 10). -/
def State.handNotice (s : State) (i : LaneId) (q : WriteSeq) (n : Notice) : State :=
  if (s.lane i).slot.isSome then s
  else if q.kind = .teardown then
    s.modLane i (fun l =>
      { l with deferred := none, slot := some { notice := n, own := true, setsBit := !s.pend.getLsbD i.val } })
  else if s.pend.getLsbD i.val then (s.modLane i (fun l => { l with deferred := some n })).finishSeq i q true
  else s.modLane i (fun l => { l with slot := some { notice := n, own := true, setsBit := true } })

/-- The sequence goes to its next step: a write is in flight from here, a notice is handed over, or the sequence ends. -/
def State.runSeq (s : State) (i : LaneId) : State :=
  match (s.lane i).io with
  | .seq q =>
    if q.begun then
      match q.steps with
      | [] => s.finishSeq i q false
      | .notice n :: _ => s.handNotice i q n
      | .write _ _ _ :: _ => s
    else s
  | .idle => s
  | .read _ _ => s

/-- A write sequence starts; under HOLD its first write waits (R169), unless it continues one already begun. -/
def State.startSeq (s : State) (i : LaneId) (st : LaneState) (k : SeqKind) (steps : List SeqStep) (begun : Bool) : State :=
  (s.modLane i (fun l =>
    { l with state := st, io := .seq { kind := k, steps := steps, begun := begun, failed := false } })).runSeq i

/-- The sequence of lane i with its head step taken. -/
def State.popStep (s : State) (i : LaneId) (q : WriteSeq) : State :=
  (s.modLane i (fun l => { l with io := .seq { q with steps := q.steps.tail } })).runSeq i

/-! ## Retirement -/

/-- The notice of a record (R142). -/
def recordNotice (c : Record) (r : RecResult) (rest : RestState) : Notice :=
  { addr := c.addr, tag := c.tag, outcome := r.outcome, reason := r.reason, notes := r.notes, progress := r.progress
    rest := rest }

/-- R112: the resume point that a retirement writes. -/
def retireTarget (c : Record) (o : RecOutcome) : Addr :=
  if o.final then c.addr + BitVec.ofNat 64 c.len else c.addr

/-- R113: the rest state that a retirement leaves. -/
def retireRest (o : RecOutcome) : RestState := if o.final then .running else .halted

/-- R111: the writes of a retirement, in order. `withStatus` is false for an owed retirement whose status was accepted. -/
def retireSteps (s : State) (i : LaneId) (c : Record) (r : RecResult) (withStatus : Bool) : List SeqStep :=
  (if withStatus then statusSteps c r else [])
    ++ [resumeStep s i (retireTarget c r.outcome)]
    ++ restStep s i (retireRest r.outcome)
    ++ (if noticeCalled (s.lane i).par c.notify r then [.notice (recordNotice c r (retireRest r.outcome))] else [])

/-- R109, R111: the current record retires with an outcome and a reason; its note bits and progress are those of its
execution state. A FAILED or HALTED outcome sets the halt reason (R115), here, as its writes begin (log 39). -/
def State.retire (s : State) (i : LaneId) (o : RecOutcome) (why : Reason) : State :=
  match (s.lane i).cur with
  | none => s
  | some c =>
    let r : RecResult := { outcome := o, reason := why, notes := c.ex.notes, progress := c.ex.progress }
    let t := s.modLane i (fun l =>
      let l' := l.stopWork
      { l' with haltReason := if o.final then l.haltReason else why })
    t.startSeq i .retiring (.retire r) (retireSteps s i c r true) (!s.hold)

/-- R154, R155, R160: a record with an owed retirement. -/
def Record.owe (c : Record) (r : RecResult) (accepted : Bool) : Record :=
  { c with owed := some { res := r, accepted := accepted } }

/-- R160: the owed retirement of the current record is written. -/
def State.retireOwed (s : State) (i : LaneId) (c : Record) (o : Owed) : State :=
  (s.modLane i Lane.stopWork).startSeq i .retiring (.retire o.res) (retireSteps s i c o.res (!o.accepted)) (!s.hold)

/-- R111: the record's work is complete: DONE, or NOTED when any note bit is set. -/
def State.retireDone (s : State) (i : LaneId) : State :=
  match (s.lane i).cur with
  | none => s
  | some c => s.retire i (completed c.ex.notes) .none

/-- The steps of a halt that writes no status: the rest state HALTED when it differs, and a FAILED notice (R154, R155,
R160). -/
def haltSteps (s : State) (i : LaneId) (c : Record) (why : Reason) (notes : BitVec 16) (progress : Nat) : List SeqStep :=
  restStep s i .halted
    ++ [.notice (recordNotice c { outcome := .failed, reason := why, notes := notes, progress := progress } .halted)]

/-- R160: a lane resumed on a record with an owed retirement halts again and keeps it. -/
def State.failOwed (s : State) (i : LaneId) (c : Record) (o : Owed) (why : Reason) : State :=
  let t := s.modLane i (fun l =>
    let l' := l.stopWork
    { l' with haltReason := why })
  t.startSeq i .retiring .rehalt (haltSteps s i c why o.res.notes o.res.progress) (!s.hold)

/-- R153, R160: the current record fails: FAILED with the reason, or the halt of R160 when it holds an owed
retirement. -/
def State.failRecord (s : State) (i : LaneId) (why : Reason) : State :=
  match (s.lane i).cur with
  | none => s
  | some c =>
    match c.owed with
    | some o => s.failOwed i c o why
    | none => s.retire i .failed why

/-- R95: an entry-read halt, with the start address as read (0 when the read failed). -/
def State.entryHalt (s : State) (i : LaneId) (why : Reason) (start : Addr) : State :=
  let n : Notice :=
    { addr := start, tag := 0, outcome := .failed, reason := why, notes := 0, progress := 0, rest := .halted }
  let t := s.modLane i (fun l => { l with haltReason := why, next := none, cur := none })
  t.startSeq i .retiring .entryHalt (restStep s i .halted ++ [.notice n]) (!s.hold)

/-- R161: the current record retires SKIPPED with the note bits and progress of its execution state; no status is
written over a final one already accepted, and the notice says SKIPPED all the same (log 37). -/
def State.retireSkipped (s : State) (i : LaneId) (c : Record) : State :=
  let r : RecResult := { outcome := .skipped, reason := .none, notes := c.ex.notes, progress := c.ex.progress }
  let withStatus := match c.owed with
    | some o => !o.accepted
    | none => true
  (s.modLane i Lane.stopWork).startSeq i .retiring (.retire r) (retireSteps s i c r withStatus) (!s.hold)

/-- R118, R124, R161: SKIP carried out. A record held by its address alone has its header read first. -/
def State.skipNow (s : State) (i : LaneId) : State :=
  match (s.lane i).cur with
  | none => s
  | some c =>
    match c.hdr with
    | none => s.startRead i .fetching (.header true)
    | some _ => s.retireSkipped i c

/-! ## Engines and pools -/

/-- R134: the Timing Engine is released and its build buffer emptied (R46). -/
def State.releaseTiming (s : State) : State :=
  { s with timing := { s.timing with owner := none, unit := .none, buffer := [] } }

/-- Mix Engine e. -/
def State.mixEng (s : State) (e : MixId) : MixEngine := s.mix.get e

/-- The state with Mix Engine e replaced. -/
def State.setMix (s : State) (e : MixId) (m : MixEngine) : State := { s with mix := s.mix.set e.val m e.isLt }

/-- R91, R134: a Mix Engine is released and its accumulators cleared. -/
def State.releaseMix (s : State) (e : MixId) : State := s.setMix e MixEngine.reset

/-- Places given back to the cue pool (R19). -/
def State.freeCues (s : State) (n : Nat) : State := { s with cueFree := s.cueFree + n }

/-- Places given back to the clip pool (R63). -/
def State.freeClips (s : State) (n : Nat) : State := { s with clipFree := s.clipFree + n }

/-! ## Prefetch (R82) -/

/-- The MIX body of a lane's current record, when that is a MIX. -/
def Lane.mixBody (l : Lane) : Option MixBody :=
  match l.cur with
  | none => none
  | some c => if c.kind = some .mix then some (MixBody.ofBytes c.fields) else none

/-- R82: the lane executes a MIX record that has passed R79: it waits for data, is queued, or is working. -/
def Lane.prefetching (l : Lane) : Bool :=
  decide (l.state = .waitData) || decide (l.state = .queued) || decide (l.state = .working)

/-- R82: whether the Prefetch Unit may issue a read for a lane whose MIX record has `f` frames. -/
def Lane.mayPrefetch (l : Lane) (f : Nat) (hold : Bool) : Bool :=
  l.prefetching && decide (l.pf.outstanding = .none) && !l.pf.paused && !l.pf.stopped && decide (l.pf.cursor < f) && !hold

/-- R82: the read at the read cursor is issued, and the cursor moves past the block. -/
def Prefetch.issue (p : Prefetch) (f : Nat) : Prefetch :=
  let k := blockCount p.cursor f
  { p with outstanding := .live p.cursor k, cursor := p.cursor + k }

/-- R82: the Prefetch Unit issues the lane's next block read when all the conditions hold. -/
def State.prefetch (s : State) (i : LaneId) : State :=
  match (s.lane i).mixBody with
  | none => s
  | some b =>
    if (s.lane i).mayPrefetch b.frames s.hold then s.modLane i (fun l => { l with pf := l.pf.issue b.frames }) else s

end Sys2Proof.Machine
end

