-- ==== Sys2Proof/Machine/Records.lean ====
section
/-! DEFINITION. What the ten record kinds do once fetched and past any gate (R25, R28, R42 to R44, R68, R79, R103 to
R108, R159, R160), and how a record comes to its gate (R96, R100). -/

namespace Sys2Proof.Machine

open Sys2Proof

/-! ## OPEN (R2, R22, R64, R103, R104) -/

/-- R103: the lane kind an OPEN asks for. -/
def OpenBody.laneKind (b : OpenBody) : Option LaneKind :=
  match b.kind with
  | 1 => some .subtitle
  | 2 => some .description
  | _ => none

/-- R2: the checks on the timing parameters that both kinds share. -/
def OpenBody.badRate (b : OpenBody) : Bool :=
  decide (b.ns = 0) || decide (b.ds = 0) || decide (2 ^ 47 - 1 < b.offset.natAbs)

/-- R2, R22: the checks for a subtitle lane. -/
def OpenBody.badSubtitle (b : OpenBody) : Bool :=
  b.badRate || decide (b.rOut = 0) || decide (16777215 < b.rOut) || decide (b.segDur = 0)
    || decide (maxTime < b.startPt * b.segDur) || decide (b.quota = 0)

/-- R2, R64: the checks for a description lane. -/
def OpenBody.badDescription (b : OpenBody) : Bool :=
  b.badRate || !([32000, 44100, 48000].contains b.rOut) || decide (b.quota = 0) || decide (b.chans = 0)
    || decide (8 < b.chans)

/-- The parameters a subtitle lane holds (R1, R2, R22, R139). -/
def OpenBody.subtitleParams (b : OpenBody) : Params :=
  { ns := b.ns, ds := b.ds, rOut := b.rOut, offset := b.offset, grid := b.grid, segDur := b.segDur, startPt := b.startPt
    cps10 := min b.cps10 1000, dMin := b.dMin, quota := min b.quota Config.cuePool, forcedOnly := b.forcedOnly
    chans := 0, duckMask := 0, policy := policyTable b.policy }

/-- R64: the duck mask bits for channels 0 to C − 1. -/
def keepChannels (mask : BitVec 8) (c : Nat) : BitVec 8 := mask &&& BitVec.ofNat 8 (2 ^ c - 1)

/-- The parameters a description lane holds (R1, R64, R139). -/
def OpenBody.descriptionParams (b : OpenBody) : Params :=
  { ns := b.ns, ds := b.ds, rOut := b.rOut, offset := b.offset, grid := 0, segDur := 0, startPt := 0, cps10 := 0
    dMin := 0, quota := min b.quota Config.clipPool, forcedOnly := false, chans := b.chans
    duckMask := keepChannels b.duckMask b.chans, policy := policyTable b.policy }

/-- R103: the kind and parameters of an OPEN that is accepted; none when it is BAD_PARAM. -/
def OpenBody.accepted (b : OpenBody) : Option (LaneKind × Params) :=
  match b.laneKind with
  | some .subtitle => if b.badSubtitle then none else some (.subtitle, b.subtitleParams)
  | some .description => if b.badDescription then none else some (.description, b.descriptionParams)
  | some .none => none
  | none => none

/-- R104: the changes of an accepted OPEN. -/
def Lane.opened (l : Lane) (k : LaneKind) (p : Params) : Lane :=
  { l with
    kind := k, par := p, counters := Vector.replicate 14 0, segTotal := 0, frmTotal := 0, store := [], lastStart := 0
    nextSeg := p.startPt, table := [], mixPos := 0, haltReason := .none }

/-- OPEN: checked, and when accepted it sets the lane up and retires DONE (R103, R104). -/
def State.execOpen (s : State) (i : LaneId) (c : Record) : State :=
  match (OpenBody.ofBytes c.fields).accepted with
  | none => s.failRecord i .badParam
  | some (k, p) =>
    (((s.modLane i (fun l => (l.opened k p).withEx (fun _ => ExecState.zero))).freeCues (s.lane i).store.length).freeClips
      (s.lane i).table.length).retire i .done .none

/-! ## CLOSE (R40, R78, R105) -/

/-- R105: a lane closed: its store or table is empty, its kind NONE. -/
def Lane.closed (l : Lane) : Lane :=
  { l with kind := .none, store := [], lastStart := 0, table := [] }

/-- CLOSE: every entry is freed with one LEFTOVER each, the kind becomes NONE, and the record retires (R40, R78, R105).
Halted by NOTE_HALT it holds an owed retirement NOTED, not accepted (R160), until its HALTED status or resume point is
refused (R154, R155; log 16). -/
def State.execClose (s : State) (i : LaneId) : State :=
  let l := s.lane i
  let n := l.store.length + l.table.length
  let notes := List.replicate n NoteKind.leftover
  let l' := (l.closed.withEx (fun x => { x with progress := n })).credit notes
  let t := ((s.setLane i l').freeCues l.store.length).freeClips l.table.length
  if haltCalled l.par notes then
    let owe (c : Record) : Record :=
      c.owe { outcome := .noted, reason := .none, notes := c.ex.notes, progress := c.ex.progress } false
    (t.modLane i (fun m => { m with cur := m.cur.map owe })).retire i .halted .noteHalt
  else t.retireDone i

/-! ## MARK, LINK and STOP (R106 to R108) -/

/-- MARK: retires DONE with progress 0 and note bits 0 (R106). -/
def State.execMark (s : State) (i : LaneId) : State :=
  (s.modLane i (fun l => l.withEx (fun _ => ExecState.zero))).retire i .done .none

/-- LINK: a valid target is written as the resume point and the lane goes on there; a bad one fails (R107). -/
def State.execLink (s : State) (i : LaneId) (c : Record) : State :=
  let target := linkTarget c.fields
  if target = 0 ∨ aligned target 8 = false then s.failRecord i .badRecord
  else s.startSeq i .fetching .linkPass [resumeStep s i target] (!s.hold)

/-- STOP: STOPPED with its writes, or, with continue_pending set, a re-fetch of the same address with no write (R108). A
STOP that executes is no longer the current record (log 6). -/
def State.execStop (s : State) (i : LaneId) (c : Record) : State :=
  let t := s.modLane i (fun l => { l with cur := none, next := some c.addr })
  if (s.lane i).contPending then
    (t.modLane i (fun l => { l with contPending := false })).startRead i .fetching (.header false)
  else
    let n := recordNotice c { outcome := .stopped, reason := .none, notes := 0, progress := 0 } .stopped
    t.startSeq i .stopped .stop
      ([resumeStep s i c.addr] ++ restStep s i .stopped ++ (if c.notify then [.notice n] else [])) (!s.hold)

/-! ## CUES and CUE (R25, R26, R28, R159) -/

/-- R27: the fixed part of the first cue not yet consumed would extend past the cue block: nothing of it is read. -/
def Record.intakeOverruns (c : Record) : Bool := decide ((CuesBody.ofBytes c.fields).byteLen < c.ex.cursor + 16)

/-- R26, R27: the next batch of a CUES record: its intake read, with the buffer emptied at its start, or the record's end
when the fixed part of its first cue overruns, under HOLD too (log 40). -/
def State.nextIntake (s : State) (i : LaneId) : State :=
  if (s.lane i).cur.any Record.intakeOverruns then s.failRecord i .badParam
  else (s.modLane i (fun l => { l with intake := [], overrun := false })).startRead i .waitData .intake

/-- CUES: R25, then intake from the cursor, or the end at once when no cue is left (R159). -/
def State.execCues (s : State) (i : LaneId) (c : Record) : State :=
  let b := CuesBody.ofBytes c.fields
  if b.count = 0 ∨ aligned b.addr 8 = false then s.failRecord i .badParam
  else if b.count ≤ c.ex.progress then s.retireDone i
  else s.nextIntake i

/-- R28: whether the inline cue's fixed part and text lie within the record. -/
def inlineFits (b : List Byte) : Bool := decide (16 ≤ b.length) && decide (16 + cueTextLen (inlineCue b) ≤ b.length)

/-- A lane that waits for an engine. -/
def State.enqueue (s : State) (i : LaneId) : State := s.modLane i (fun l => { l with state := .queued, io := .idle })

/-- CUE: R28, then the unit; a cue already consumed ends the record at once (R159). -/
def State.execCue (s : State) (i : LaneId) (c : Record) : State :=
  if c.ex.progress = 1 then s.retireDone i
  else if inlineFits c.fields then s.enqueue i
  else s.failRecord i .badParam

/-! ## EMIT (R42 to R45, R159) -/

/-- EMIT: the area check, the extent, the range check, then the first unit. -/
def State.execEmit (s : State) (i : LaneId) (c : Record) : State :=
  let b := EmitBody.ofBytes c.fields
  let l := s.lane i
  if b.badArea then s.failRecord i .badParam
  else match throughIndex l b with
    | none => s.retireDone i
    | some k =>
      let t := s.modLane i (fun l => l.withEx (fun x => { x with through := k }))
      if k < l.nextSeg then t.retireDone i
      else if maxTime < k * l.par.segDur then t.failRecord i .badParam
      else t.enqueue i

/-! ## CLIP and MIX (R68, R79, R159) -/

/-- CLIP: R68, then the unit; a clip already consumed ends the record at once (R159). -/
def State.execClip (s : State) (i : LaneId) (c : Record) : State :=
  if c.ex.progress = 1 then s.retireDone i
  else if (ClipBody.ofBytes c.fields).bad then s.failRecord i .badParam
  else s.enqueue i

/-- MIX: R79, then the base sample and the prefetch from frame P. -/
def State.execMix (s : State) (i : LaneId) (c : Record) : State :=
  let b := MixBody.ofBytes c.fields
  let l := s.lane i
  let p := c.ex.progress
  if b.bad l.mixPos p then s.failRecord i .badParam
  else if b.frames ≤ p then s.retireDone i
  else
    (s.modLane i (fun l =>
      { l with state := .waitData, io := .idle, base := l.mixPos - p, pf := { l.pf with cursor := p } })).prefetch i

/-! ## Execution and the way to it -/

/-- R159, R160: the current record is executed, once it is past its gate: an owed retirement is written, or the kind's
own execution begins. -/
def State.execute (s : State) (i : LaneId) : State :=
  match (s.lane i).cur with
  | none => s
  | some c =>
    match c.owed with
    | some o => s.retireOwed i c o
    | none =>
      match c.kind with
      | some .openRec => s.execOpen i c
      | some .closeRec => s.execClose i
      | some .cues => s.execCues i c
      | some .cue => s.execCue i c
      | some .emit => s.execEmit i c
      | some .clip => s.execClip i c
      | some .mix => s.execMix i c
      | some .mark => s.execMark i
      | some .link => s.execLink i c
      | some .stop => s.execStop i c
      | none => s

/-- R100: a gated record goes to its gate: a bad gate word address fails it, else the first poll is issued at once, or
when HOLD is cleared (R169) or an ignored poll has ended (log 9). -/
def State.startGate (s : State) (i : LaneId) (c : Record) : State :=
  if aligned c.gateAddr 4 then
    s.modLane i (fun l =>
      { l with
        state := .gated, io := .idle
        gate := { l.gate with
          deadline := c.gateTimeout
          poll := if s.hold || l.gate.stale then .due else .outstanding } })
  else s.failRecord i .badParam

/-- R96: both parts of the fetch have completed; the record goes to its gate or straight to its execution. -/
def State.recordFetched (s : State) (i : LaneId) : State :=
  match (s.lane i).cur with
  | none => s
  | some c => if c.hasGate then s.startGate i c else s.execute i

end Sys2Proof.Machine
end

