-- ==== Sys2Proof/Machine/Gates.lean ====
section
/-! DEFINITION. Gates: polls, the poll phase, expiry (R100 to R102, R125). -/

namespace Sys2Proof.Machine

open Sys2Proof

/-! ## Shared operations -/

/-- The lane's poll has ended. -/
def State.endPoll (s : State) (i : LaneId) (p : PollState) : State :=
  s.modLane i (fun l => { l with gate := { l.gate with poll := p } })

/-- R101: an ignored poll has ended; a first poll that waited for it is issued unless HOLD is set (log 9). -/
def State.endStalePoll (s : State) (i : LaneId) : State :=
  s.modLane i (fun l =>
    { l with gate := { l.gate with
        stale := false
        poll := if l.gate.poll = .due ∧ s.hold = false then .outstanding else l.gate.poll } })

/-- R100, R101: the gate has opened: its deadline and poll phase are cleared, and the record is executed. -/
def State.openGate (s : State) (i : LaneId) : State :=
  (s.modLane i (fun l => { l with gate := { l.gate with deadline := 0, poll := .none } })).execute i

/-- The gate value of the lane's current record. -/
def Lane.gateValue (l : Lane) : Option (BitVec 32) := l.cur.map Record.gateValue

/-- R100, R101, R125: a poll has completed with a word. -/
def State.pollDone (s : State) (i : LaneId) (word : BitVec 32) : State :=
  if (s.lane i).gate.poll = .outstanding then
    if (s.lane i).state = .abandoning then s.endPoll i .none
    else if (s.lane i).gateValue = some word then s.openGate i
    else s.endPoll i .phase
  else if (s.lane i).gate.stale then s.endStalePoll i
  else s

/-- R100, R101, R125: a poll has failed. -/
def State.pollFailed (s : State) (i : LaneId) : State :=
  if (s.lane i).gate.poll = .outstanding then
    if (s.lane i).state = .abandoning then s.endPoll i .none
    else (s.endPoll i .none).failRecord i .hostAccess
  else if (s.lane i).gate.stale then s.endStalePoll i
  else s

end Sys2Proof.Machine
end

