-- ==== Sys2Proof/Machine/Inspection.lean ====
section
/-! DEFINITION. INSPECT: the snapshot, the image and the ends of its transfers (R129, R130, R179). -/

namespace Sys2Proof.Machine

open Sys2Proof

/-! ## Snapshot and image (R129, R179) -/

/-- R129: next_segment on a subtitle lane, m on a description lane, 0 for kind NONE. -/
def Lane.position (l : Lane) : Nat :=
  match l.kind with
  | .none => 0
  | .subtitle => l.nextSeg
  | .description => l.mixPos

/-- R129: the snapshot of a lane. -/
def Lane.snapshot (l : Lane) (i : LaneId) : Snapshot :=
  { lane := i, state := l.state, kind := l.kind, halt := l.haltReason
    recAddr := match l.cur with
      | some c => c.addr
      | none => 0
    progress := match l.cur with
      | some c => c.ex.progress
      | none => 0
    pos := l.position, counters := l.counters, segTotal := l.segTotal, frmTotal := l.frmTotal
    cues := if l.kind = .subtitle then l.store else []
    clips := if l.kind = .description then l.table else [] }

/-- R179: a cue store entry of the image. -/
def CueEntry.imageBytes (e : CueEntry) : List Byte :=
  leBytes 8 e.start ++ leBytes 8 e.stop ++ leBytes 1 e.slot.toNat ++ leBytes 1 e.style.toNat
    ++ leBytes 1 ((if e.forced then 1 else 0) + (if e.continued then 2 else 0)) ++ leBytes 1 e.chars
    ++ leBytes 2 e.text.length ++ leBytes 2 0 ++ padded e.text

/-- R179: a clip entry of the image. -/
def ClipEntry.imageBytes (e : ClipEntry) : List Byte :=
  leBytes 8 e.pcm.toNat ++ leBytes 8 e.start ++ leBytes 4 e.len ++ leBytes 2 e.gain ++ leBytes 2 e.duck
    ++ leBytes 2 e.attack ++ leBytes 2 e.release ++ leBytes 1 e.mask.toNat ++ leBytes 3 0

/-- R129, R179: the entries of a snapshot, in order. -/
def Snapshot.entries (n : Snapshot) : List (List Byte) :=
  n.cues.map CueEntry.imageBytes ++ n.clips.map ClipEntry.imageBytes

/-- R130, R179: the longest leading run of entries whose total size does not exceed the room. -/
def entriesWithin : Nat → List (List Byte) → List (List Byte)
  | _, [] => []
  | room, e :: es => if e.length ≤ room then e :: entriesWithin (room - e.length) es else []

/-- R179: the fixed part of the image, 96 bytes. -/
def Snapshot.fixedPart (n : Snapshot) (written omitted : Nat) : List Byte :=
  leBytes 1 n.state.code ++ leBytes 1 n.kind.code ++ leBytes 1 n.halt.code ++ leBytes 1 n.lane.val
    ++ leBytes 4 n.progress ++ leBytes 8 n.recAddr.toNat ++ leBytes 8 n.pos ++ leBytes 4 written ++ leBytes 4 omitted
    ++ (n.counters.toList.map (leBytes 4)).flatten ++ leBytes 4 n.segTotal ++ leBytes 4 n.frmTotal

/-- R130, R179: the image of a snapshot for a capacity. -/
def Snapshot.image (n : Snapshot) (cap : Nat) : List Byte :=
  let kept := entriesWithin (cap - 96) n.entries
  n.fixedPart kept.length (n.entries.length - kept.length) ++ kept.flatten

/-! ## Steps (R130) -/

/-- R130: the INSPECT ends with a result, and the busy flag clears. -/
def State.endInspect (s : State) (r : CmdResult) : State := { s with port := { s.port with lastResult := r, job := none } }

/-- R130, R174: the inspection address, bytes 0 to 7 of the read. -/
def inspectAddr (b : BitVec 96) : Addr := b.extractLsb' 0 64

/-- R130, R174: the inspection capacity, bytes 8 to 11 of the read. -/
def inspectCap (b : BitVec 96) : Nat := (b.extractLsb' 64 32).toNat

/-- R130: the lane entry's inspection fields have been read. -/
def State.inspectRead (s : State) (b : BitVec 96) : State :=
  match s.port.job with
  | none => s
  | some j =>
    match j.phase with
    | .writing _ _ => s
    | .entryRead =>
      if inspectAddr b = 0 ∨ aligned (inspectAddr b) 8 = false ∨ inspectCap b < 96 then s.endInspect .inspectFailed
      else
        { s with port := { s.port with
            job := some { j with phase := .writing (inspectAddr b) (j.snap.image (inspectCap b)) } } }

/-- R130: the read of the inspection fields has failed. -/
def State.inspectReadFailed (s : State) : State :=
  match s.port.job with
  | none => s
  | some j =>
    match j.phase with
    | .writing _ _ => s
    | .entryRead => s.endInspect .inspectFailed

/-- R130: every write of the image has been accepted. -/
def State.inspectWritten (s : State) : State :=
  match s.port.job with
  | none => s
  | some j =>
    match j.phase with
    | .entryRead => s
    | .writing a b => (s.put (.accepted a b)).endInspect .inspectDone

/-- R130, R162: a write of the image has been refused. -/
def State.inspectRefused (s : State) : State :=
  match s.port.job with
  | none => s
  | some j =>
    match j.phase with
    | .entryRead => s
    | .writing a b => (s.put (.torn a b)).endInspect .inspectFailed

end Sys2Proof.Machine
end

