-- ==== Sys2Proof/Machine/Fetch.lean ====
section
/-! DEFINITION. Reads of directory entries and records, and what a timeout does to each read (R95 to R98, R152, R153,
R158, R161). -/

namespace Sys2Proof.Machine

open Sys2Proof

/-! ## Shared operations -/

/-- The address of the lane's record fetch: the held record's on a re-read (R158), else the next address (R115). -/
def Lane.fetchAddr (l : Lane) : Addr :=
  match l.cur with
  | some c => c.addr
  | none => l.next.getD 0

/-- R125: what an ABANDONING lane had in flight has ended; its data or its failure is discarded. -/
def State.dropRead (s : State) (i : LaneId) : State := s.modLane i (fun l => { l with io := .idle })

/-- R95: the start address of an entry read is judged. -/
def State.entryRead (s : State) (i : LaneId) (start : Addr) : State :=
  if (s.lane i).io = .read .entry true then
    if (s.lane i).state = .abandoning then s.dropRead i
    else if start = 0 ∨ aligned start 8 = false then s.entryHalt i .badRecord start
    else (s.modLane i (fun l => { l with next := some start })).startRead i .fetching (.header false)
  else s

/-- R95, R153: an entry read fails: an entry-read halt, with record address 0 in its notice (R142). -/
def State.entryFailed (s : State) (i : LaneId) : State :=
  if (s.lane i).io = .read .entry true then
    if (s.lane i).state = .abandoning then s.dropRead i else s.entryHalt i .hostAccess 0
  else s

/-- R158: the held record after its kind is compared with the kind that the header read returned. A record held with no
kind differs from every kind (log 38). -/
def Record.compared (c : Record) (h : Header) : Record :=
  if c.kind.isSome ∧ c.kind = h.kind then c else { c with ex := ExecState.zero, owed := none }

/-- A record newly fetched, at an address, with its header and body; a record held there keeps its execution state and
owed retirement (R96, R158). -/
def Lane.fetched (l : Lane) (h : Header) (body : List Byte) : Record :=
  match l.cur with
  | some c => { addr := c.addr, hdr := some h, body := body, ex := c.ex, owed := c.owed }
  | none => { addr := l.fetchAddr, hdr := some h, body := body, ex := ExecState.zero, owed := none }

/-- R97, R98: a header that fails a check retires its record with progress 0 and note bits 0. -/
def State.failHeader (s : State) (i : LaneId) (h : Header) (why : Reason) : State :=
  (s.modLane i (fun l =>
    { l with cur := some { addr := l.fetchAddr, hdr := some h, body := [], ex := ExecState.zero, owed := none } })).retire
      i .failed why

/-- R97, R98, R158: the checks on a header, after the comparison of kinds. -/
def State.judgeHeader (s : State) (i : LaneId) (h : Header) : State :=
  let t := s.modLane i (fun l => { l with cur := l.cur.map (fun c => c.compared h) })
  let l := t.lane i
  match l.cur.bind Record.owed with
  | some o =>
    if h.bad l.fetchAddr then
      let c := l.fetched h []
      (t.modLane i (fun l => { l with cur := some c })).failOwed i c o .badRecord
    else if h.len = 16 then (t.modLane i (fun l => { l with cur := some (l.fetched h []) })).recordFetched i
    else t.startRead i .fetching (.body h)
  | none =>
    if h.bad l.fetchAddr then t.failHeader i { h with kind := none } .badRecord
    else match h.kind.bind (kindCheck l.kind) with
      | some why => t.failHeader i h why
      | none =>
        if h.len = 16 then (t.modLane i (fun l => { l with cur := some (l.fetched h []) })).recordFetched i
        else t.startRead i .fetching (.body h)

/-- R161: the header read of a SKIP gives the record's length, flags and tag, and the record retires SKIPPED (log 13). -/
def State.skipHeader (s : State) (i : LaneId) (h : Header) : State :=
  match (s.lane i).cur with
  | none => s
  | some c =>
    let c' : Record := { c with hdr := some { h with kind := none } }
    (s.modLane i (fun l => { l with cur := some c' })).retireSkipped i c'

/-- R96, R125, R161: a header read has completed. -/
def State.headerRead (s : State) (i : LaneId) (bits : BitVec 128) : State :=
  if (s.lane i).io = .read (.header false) true then
    if (s.lane i).state = .abandoning then s.dropRead i else s.judgeHeader i (Header.ofBits bits)
  else if (s.lane i).io = .read (.header true) true then
    if (s.lane i).state = .abandoning then s.dropRead i else s.skipHeader i (Header.ofBits bits)
  else s

/-- R96: a body read has completed with the record's length less 16 bytes. -/
def State.bodyRead (s : State) (i : LaneId) (bytes : List Byte) : State :=
  match (s.lane i).io with
  | .read (.body h) true =>
    if bytes.length = h.len - 16 then
      if (s.lane i).state = .abandoning then s.dropRead i
      else (s.modLane i (fun l => { l with cur := some (l.fetched h bytes) })).recordFetched i
    else s
  | _ => s

/-- R153: a header or body read has failed. A header read that fails on a first fetch leaves the lane holding the record
by its address alone. -/
def State.fetchFailed (s : State) (i : LaneId) : State :=
  match (s.lane i).io with
  | .read (.header _) true =>
    if (s.lane i).state = .abandoning then s.dropRead i
    else
      let bare (l : Lane) : Record :=
        { addr := l.fetchAddr, hdr := none, body := [], ex := ExecState.zero, owed := none }
      (s.modLane i (fun l => { l with cur := some (l.cur.getD (bare l)) })).failRecord i .hostAccess
  | .read (.body h) true =>
    if (s.lane i).state = .abandoning then s.dropRead i
    else (s.modLane i (fun l => { l with cur := some (l.fetched h []) })).failRecord i .hostAccess
  | _ => s

end Sys2Proof.Machine
end

