-- ==== Sys2Proof/Machine/TimingUnits.lean ====
section
/-! DEFINITION. Intake, the grant of the Timing Engine, and the ends of its units (R26 to R29, R46 to R60, R69, R132). -/

namespace Sys2Proof.Machine

open Sys2Proof

/-! ## Intake (R26, R27, R153) -/

/-- R26, R27: an intake read has completed with the chunks given. -/
def State.intakeDone (s : State) (i : LaneId) (chunks : List RawCue) : State :=
  let l := s.lane i
  if l.io = .read .intake true then
    match l.cur with
    | none => s
    | some c =>
      let b := CuesBody.ofBytes c.fields
      match takeBatch b.byteLen (min Config.batchMax (b.count - c.ex.progress)) c.ex.cursor chunks with
      | none => s
      | some (batch, ended) =>
        if l.state = .abandoning then s.dropRead i
        else if batch.isEmpty then (s.dropRead i).failRecord i .badParam
        else s.modLane i (fun l => { l with state := .queued, io := .idle, intake := batch, overrun := ended })
  else s

/-- R26, R153: an intake read has failed. -/
def State.intakeFailed (s : State) (i : LaneId) : State :=
  if (s.lane i).io = .read .intake true then
    if (s.lane i).state = .abandoning then s.dropRead i else (s.dropRead i).failRecord i .hostAccess
  else s

/-! ## Grants (R131 to R134) -/

/-- R132: the order pointer + 1, pointer + 2, …, pointer. -/
def grantOrder (p : LaneId) : List LaneId := (List.range 16).map (fun k => Fin.ofNat 16 (p.val + 1 + k))

/-- R131: a QUEUED lane requests the Mix pool for a MIX record, else the Timing pool. -/
def Lane.wantsMix (l : Lane) : Bool := decide (l.state = .queued) && l.mixBody.isSome

/-- R131: a lane's request for the Timing pool. -/
def Lane.wantsTiming (l : Lane) : Bool := decide (l.state = .queued) && !l.mixBody.isSome

/-- R132: the lane that the Timing Engine is granted to, when it is free and HOLD is clear. -/
def State.timingPick (s : State) : Option LaneId :=
  if s.timing.owner.isNone && !s.hold then (grantOrder s.timing.ptr).find? (fun i => (s.lane i).wantsTiming) else none

/-- R46 to R52: an EMIT unit begins: the segment is built; when it does not fit, the unit ends AREA_FULL with no change. -/
def State.beginSegment (s : State) (i : LaneId) (c : Record) : State :=
  let b := EmitBody.ofBytes c.fields
  let img := segmentBytes (s.lane i).par (s.lane i).nextSeg (s.lane i).store
  if b.cap < c.ex.areaOff + img.length then s.releaseTiming.retire i .partialDone .areaFull
  else { s with timing := { s.timing with unit := if b.compare then .compare else .segWrite, buffer := img } }

/-- R29, R46, R69: the unit of a lane that has just been granted the Timing Engine begins. -/
def State.beginUnit (s : State) (i : LaneId) : State :=
  match (s.lane i).cur with
  | none => s.releaseTiming
  | some c =>
    if c.kind = some .emit then s.beginSegment i c
    else if c.kind = some .clip then { s with timing := { s.timing with unit := .clip } }
    else { s with timing := { s.timing with unit := .cue } }

/-- R132: the grant. -/
def State.grantTiming (s : State) : State :=
  match s.timingPick with
  | none => s
  | some i =>
    (({ s with timing := { s.timing with owner := some i, ptr := i } } : State).modLane i
      (fun l => { l with state := .working })).beginUnit i

/-! ## Cue units (R29) -/

/-- The cues that a cue unit works on: the inline cue of a CUE record, or the intake buffer. -/
def Lane.batch (l : Lane) (c : Record) : List RawCue :=
  if c.kind = some .cue then [inlineCue c.fields] else l.intake

/-- How many cues a cue record counts: 1 for CUE. -/
def Record.cueCount (c : Record) : Nat := if c.kind = some .cue then 1 else (CuesBody.ofBytes c.fields).count

/-- R29: the lane at the end of a cue unit: store, last_start, progress, cursor and notes. -/
def Lane.afterCues (l : Lane) (w : CueWork) : Lane :=
  ({ l with store := w.store, lastStart := w.lastStart }.withEx
    (fun x => { x with progress := x.progress + w.consumed, cursor := w.cursor })).credit w.notes

/-- R29: the unit-end table of a cue unit. -/
def State.afterCueUnit (s : State) (i : LaneId) (w : CueWork) : State :=
  let l := s.lane i
  match l.cur with
  | none => s
  | some c =>
    if haltCalled l.par w.notes then s.retire i .halted .noteHalt
    else if w.refused then s.retire i .partialDone .storeFull
    else if l.overrun then s.retire i .failed .badParam
    else if c.cueCount ≤ c.ex.progress then s.retireDone i
    else s.nextIntake i

/-- R29: the lane that runs a unit of the kind given. -/
def State.unitOwner (s : State) (u : TimingUnit) : Option LaneId := if s.timing.unit = u then s.timing.owner else none

/-- R29, R125: a cue unit ends. -/
def State.cueUnitEnds (s : State) : State :=
  match s.unitOwner .cue with
  | none => s
  | some i =>
    match (s.lane i).cur with
    | none => s
    | some c =>
      let l := s.lane i
      let w := cueUnit l c.ex s.cueFree (l.batch c)
      let t : State := { (s.releaseTiming.setLane i (l.afterCues w)) with cueFree := w.free }
      if l.state = .abandoning then t else t.afterCueUnit i w

/-! ## Clip units (R69) -/

/-- R69: the lane at the end of a CLIP unit that consumed its clip. -/
def Lane.afterClip (l : Lane) (table : List ClipEntry) (notes : List NoteKind) : Lane :=
  ({ l with table := table }.withEx (fun x => { x with progress := 1 })).credit notes

/-- R69, R140: after a consumed clip. -/
def State.afterClipUnit (s : State) (i : LaneId) (notes : List NoteKind) : State :=
  if (s.lane i).state = .abandoning then s
  else if haltCalled (s.lane i).par notes then s.retire i .halted .noteHalt
  else s.retireDone i

/-- R69 to R74, R125: a CLIP unit ends. -/
def State.clipUnitEnds (s : State) : State :=
  match s.unitOwner .clip with
  | none => s
  | some i =>
    match (s.lane i).cur with
    | none => s
    | some c =>
      let l := s.lane i
      match clipUnit l (ClipBody.ofBytes c.fields) s.clipFree with
      | .dropped notes => (s.releaseTiming.setLane i (l.afterClip l.table notes)).afterClipUnit i notes
      | .refused =>
        if l.state = .abandoning then s.releaseTiming else s.releaseTiming.retire i .partialDone .storeFull
      | .inserted e notes =>
        ({ (s.releaseTiming.setLane i (l.afterClip (insertClip e l.table) notes)) with
            clipFree := s.clipFree - 1 } : State).afterClipUnit i notes

/-! ## EMIT units (R53 to R59) -/

/-- R53: where the segment in the build buffer lies: the area address plus the area offset, modulo 2^64 (log 33). -/
def segmentAddr (c : Record) : Addr := (EmitBody.ofBytes c.fields).area + BitVec.ofNat 64 c.ex.areaOff

/-- R55, R125: the unit-end table of an EMIT unit that credited the notes given. -/
def State.afterSegment (s : State) (i : LaneId) (notes : List NoteKind) : State :=
  let l := s.lane i
  match l.cur with
  | none => s
  | some c =>
    if l.state = .abandoning then s
    else if haltCalled l.par notes then s.retire i .halted .noteHalt
    else if c.ex.through < l.nextSeg then s.retireDone i
    else s.enqueue i

/-- R53, R54, R56, R57: the segment is complete. -/
def State.segmentDone (s : State) (i : LaneId) (diff : Option Nat) : State :=
  let l := s.lane i
  let size := s.timing.buffer.length
  ((s.releaseTiming.setLane i (l.completeSegment size diff)).freeCues l.freedBySegment).afterSegment i
    (emitNotes l diff.isSome)

/-- R59, R153, R125: a unit of the Timing Engine fails on a host access; none of its changes is made. -/
def State.timingUnitFails (s : State) (i : LaneId) : State :=
  if (s.lane i).state = .abandoning then s.releaseTiming else s.releaseTiming.failRecord i .hostAccess

/-- R53: every write of the segment has been accepted. -/
def State.segmentWritten (s : State) : State :=
  match s.unitOwner .segWrite with
  | none => s
  | some i =>
    match (s.lane i).cur with
    | none => s
    | some c => (s.put (.accepted (segmentAddr c) s.timing.buffer)).segmentDone i none

/-- R59, R162: a write of the segment has been refused. -/
def State.segmentRefused (s : State) : State :=
  match s.unitOwner .segWrite with
  | none => s
  | some i =>
    match (s.lane i).cur with
    | none => s
    | some c => (s.put (.torn (segmentAddr c) s.timing.buffer)).timingUnitFails i

/-- R56: the compare read has completed with as many bytes as the segment has. -/
def State.segmentCompared (s : State) (bytes : List Byte) : State :=
  match s.unitOwner .compare with
  | none => s
  | some i => if bytes.length = s.timing.buffer.length then s.segmentDone i (firstDiffAt s.timing.buffer bytes) else s

/-- R59: the compare read has failed. -/
def State.compareFailed (s : State) : State :=
  match s.unitOwner .compare with
  | none => s
  | some i => s.timingUnitFails i

end Sys2Proof.Machine
end

