-- ==== Sys2Proof/Machine/MixUnits.lean ====
section
/-! DEFINITION. Programme block reads, the grant of a Mix Engine, and the steps of a Mix unit (R82 to R94, R133). -/

namespace Sys2Proof.Machine

open Sys2Proof

/-! ## Block reads (R83, R85, R86) -/

/-- R87: a lane in WAIT_DATA is re-judged by its queue's head. -/
def State.judgeHead (s : State) (i : LaneId) : State :=
  if (s.lane i).state = .waitData ∧ (s.lane i).mixBody.isSome then
    match (s.lane i).pf.queue with
    | .read _ _ _ :: _ => s.enqueue i
    | .errored _ :: _ => s.failRecord i .hostAccess
    | [] => s
  else s

/-- R83: a live block read has completed with the block's samples. -/
def State.blockRead (s : State) (i : LaneId) (bytes : List Byte) : State :=
  match (s.lane i).pf.outstanding with
  | .live off k =>
    if bytes.length = 2 * (k * (s.lane i).par.chans) then
      ((s.modLane i (fun l => { l with pf := l.pf.join (.read off k (samplesOf bytes)) })).judgeHead i).prefetch i
    else s
  | .stale => s
  | .none => s

/-- R85: a live block read has failed: an errored block joins the queue and the stopped flag is set. -/
def State.blockFailed (s : State) (i : LaneId) : State :=
  match (s.lane i).pf.outstanding with
  | .live off _ =>
    (s.modLane i (fun l =>
      { l with pf := { (l.pf.join (.errored off)) with stopped := true } })).judgeHead i
  | .stale => s
  | .none => s

/-- R86: a stale block read has ended; its data or failure is dropped. -/
def State.staleEnded (s : State) (i : LaneId) : State :=
  if (s.lane i).pf.outstanding = .stale then
    (s.modLane i (fun l => { l with pf := { l.pf with outstanding := .none } })).prefetch i
  else s

/-! ## The grant (R88, R133) -/

/-- R133: the Mix Engine to grant: engine 0 when it is free, else engine 1 when that is free. -/
def State.freeMix (s : State) : Option MixId :=
  if (s.mixEng 0).owner.isNone then some 0 else if (s.mixEng 1).owner.isNone then some 1 else none

/-- R133: the lane that a free Mix Engine is granted to, when HOLD is clear. -/
def State.mixPick (s : State) : Option LaneId :=
  if s.hold then none else (grantOrder s.mixPtr).find? (fun i => (s.lane i).wantsMix)

/-- R133: the lane that a Mix Engine is granted to. -/
def State.mixGrantee (s : State) : Option LaneId := if s.freeMix.isSome then s.mixPick else none

/-- The block at the head of a lane's queue, when it is a read block: offset, frame count, samples. -/
def Lane.headBlock (l : Lane) : Option (Nat × Nat × List (BitVec 16)) :=
  match l.pf.queue with
  | .read off k samples :: _ => some (off, k, samples)
  | .errored _ :: _ => none
  | [] => none

/-- R89, R91: the block is computed from the runs read, and its output write is issued. -/
def State.computeBlock (s : State) (e : MixId) (l : Lane) (off k : Nat) (samples : List (BitVec 16))
    (runs : List (List (BitVec 16))) : State :=
  let m := s.mixEng e
  let n0 := l.base + off
  let need := neededClips m.view l.par.chans n0 k
  s.setMix e { m with acc := mixBlock l.par m.view (need.zip runs) samples n0 k, phase := .writing }

/-- R88: the Mix unit of a lane begins on engine e with its view of the clip table: its clip reads are issued, or, when
the block needs none, the block is computed at once. -/
def State.beginMix (s : State) (e : MixId) (i : LaneId) : State :=
  let l := s.lane i
  let t := s.setMix e { owner := some i, view := l.table, acc := [], phase := .reading }
  match l.headBlock with
  | none => t
  | some (off, k, samples) =>
    if (neededClips l.table l.par.chans (l.base + off) k).isEmpty then t.computeBlock e l off k samples [] else t

/-- R133: the grant of one Mix Engine. -/
def State.grantMix (s : State) : State :=
  match s.freeMix, s.mixPick with
  | some e, some i =>
    (({ s with mixPtr := i } : State).modLane i (fun l => { l with state := .working })).beginMix e i
  | some _, none => s
  | none, some _ => s
  | none, none => s

/-! ## The steps of a Mix unit (R89 to R94) -/

/-- R89: the clip sample reads have completed with one run for each entry the block needs. -/
def State.clipsRead (s : State) (e : MixId) (runs : List (List Byte)) : State :=
  let m := s.mixEng e
  match m.owner with
  | none => s
  | some i =>
    match (s.lane i).headBlock with
    | none => s
    | some (off, k, samples) =>
      let l := s.lane i
      if m.phase = .reading ∧ runsFit (neededClips m.view l.par.chans (l.base + off) k) (l.base + off) k runs = true then
        s.computeBlock e l off k samples (runs.map samplesOf)
      else s

/-- R93, R125: a Mix unit fails; none of its changes is made. -/
def State.mixFails (s : State) (e : MixId) (i : LaneId) : State :=
  if (s.lane i).state = .abandoning then s.releaseMix e else (s.releaseMix e).failRecord i .hostAccess

/-- R93: a clip sample read has failed. -/
def State.clipsFailed (s : State) (e : MixId) : State :=
  match (s.mixEng e).owner with
  | none => s
  | some i => if (s.mixEng e).phase = .reading then s.mixFails e i else s

/-- R80: where the head block of a lane lies in the output area. -/
def outputAddr (l : Lane) (b : MixBody) (off : Nat) : Addr := frameAddr b.out l.par.chans off

/-- R92: the unit-end table of a Mix unit that credited the notes given, for a record of `f` frames. -/
def State.afterBlock (s : State) (i : LaneId) (f : Nat) (notes : List NoteKind) : State :=
  let l := s.lane i
  match l.cur with
  | none => s
  | some c =>
    if l.state = .abandoning then s
    else if haltCalled l.par notes then s.retire i .halted .noteHalt
    else if f ≤ c.ex.progress then s.retireDone i
    else ((s.modLane i (fun l => { l with state := .waitData, io := .idle })).judgeHead i).prefetch i

/-- R91: every write of the mixed block has been accepted. -/
def State.blockWritten (s : State) (e : MixId) : State :=
  let m := s.mixEng e
  match m.owner with
  | none => s
  | some i =>
    match (s.lane i).headBlock, (s.lane i).mixBody with
    | some (off, k, _), some b =>
      if m.phase = .writing then
        let l := s.lane i
        let notes := clippedNotes m.acc
        let t := (s.put (.accepted (outputAddr l b off) (mixedBytes m.acc))).releaseMix e
        ((t.setLane i (l.completeBlock k notes)).freeClips (l.freedByBlock k)).afterBlock i b.frames notes
      else s
    | some _, none => s
    | none, some _ => s
    | none, none => s

/-- R93, R162: a write of the mixed block has been refused. -/
def State.blockRefused (s : State) (e : MixId) : State :=
  let m := s.mixEng e
  match m.owner with
  | none => s
  | some i =>
    match (s.lane i).headBlock, (s.lane i).mixBody with
    | some (off, _, _), some b =>
      if m.phase = .writing then (s.put (.torn (outputAddr (s.lane i) b off) (mixedBytes m.acc))).mixFails e i else s
    | some _, none => s
    | none, some _ => s
    | none, none => s

end Sys2Proof.Machine
end

