-- ==== Sys2Proof/Machine/NoticeEvents.lean ====
section
/-! DEFINITION. The ends of notice slot writes, and refused MSIs (R144 to R151). -/

namespace Sys2Proof.Machine

open Sys2Proof

/-! ## Shared operations -/

/-- R118, R146: a lane in NOTICE_WAIT leaves it and carries out the action it was given. -/
def State.leaveWait (s : State) (i : LaneId) : State :=
  if (s.lane i).state = .noticeWait then
    match (s.lane i).waitAct with
    | .fetch => s.startRead i .fetching (.header false)
    | .resume => s.resumeNow i
    | .skip => s.skipNow i
  else s

/-- R127, R151: a refused slot write sets the halt reason to HOST_ACCESS; in a teardown, once the context is reset. -/
def Lane.slotFailed (l : Lane) (own : Bool) : Lane :=
  { l with
    haltReason := .hostAccess
    io := match l.io with
      | .seq q => .seq { q with failed := q.failed || (own && decide (q.kind = .teardown)) }
      | .idle => .idle
      | .read r b => .read r b }

/-- What follows the end of a slot write: the lane's own sequence ends, or a waiting lane leaves NOTICE_WAIT and a notice
that waited for this write is handed over (R144, R146, R150; log 10). -/
def State.slotEnded (s : State) (i : LaneId) (own : Bool) : State :=
  if own then
    match (s.lane i).io with
    | .seq q => s.finishSeq i q false
    | .idle => s
    | .read _ _ => s
  else if (s.lane i).state = .noticeWait then s.leaveWait i
  else s.runSeq i

/-- R144, R146, R150, R151: a slot write has ended: the place is free and the pending bit is set where this write sets
it. -/
def State.slotPosted (s : State) (i : LaneId) (w : SlotWrite) : State :=
  let t := s.modLane i (fun l => { l with slot := none })
  (if w.setsBit then t.raisePend i else t).slotEnded i w.own

/-- R144, R146: the link has accepted the slot write. -/
def State.slotAccepted (s : State) (i : LaneId) : State :=
  match (s.lane i).slot with
  | none => s
  | some w => (s.put (.accepted (noticeSlotAddr s.dirBase i) w.notice.bytes)).slotPosted i w

/-- R151: the link has refused the slot write, which leaves the slot as it was (log 19); the notice counts as posted. -/
def State.slotRefused (s : State) (i : LaneId) : State :=
  match (s.lane i).slot with
  | none => s
  | some w => (s.modLane i (fun l => l.slotFailed w.own)).slotPosted i w

end Sys2Proof.Machine
end

