-- ==== Sys2Proof/Machine/Retirement.lean ====
section
/-! DEFINITION. The writes of retirements, STOPs, passed LINKs, entry-read halts and teardowns as the link accepts or
refuses them, and the ABANDON teardown (R107, R108, R111, R126, R127, R153 to R156). -/

namespace Sys2Proof.Machine

open Sys2Proof

/-! ## Shared operations -/

/-- The write sequence of a lane whose head is a write in flight, with that write. -/
def Lane.headWrite (l : Lane) : Option (WriteSeq × WriteKind × Addr × List Byte) :=
  match l.io with
  | .seq q =>
    if q.begun then
      match q.steps with
      | .write k a b :: _ => some (q, k, a, b)
      | .notice _ :: _ => none
      | [] => none
    else none
  | .idle => none
  | .read _ _ => none

/-- Whether an accepted resume point write of a sequence finishes its record: a final retirement, or a passed LINK (R107,
R112, R115; log 6, log 28). -/
def SeqKind.finishesRecord : SeqKind → Bool
  | .retire r => r.outcome.final
  | .linkPass => true
  | .stop => false
  | .entryHalt => false
  | .rehalt => false
  | .teardown => false

/-- What an accepted write changes in the lane context: the next address and, when the record is finished, the current
record (R112, R115); the rest state last written (R113). -/
def Lane.wrote (l : Lane) (q : WriteSeq) (k : WriteKind) : Lane :=
  match k with
  | .results => l
  | .status => l
  | .resumePoint t => { l with next := some t, cur := if q.kind.finishesRecord then none else l.cur }
  | .restState r => { l with restLast := r }

/-- R111: the link has accepted the head write of lane i's sequence. -/
def State.writeAccepted (s : State) (i : LaneId) : State :=
  match (s.lane i).headWrite with
  | none => s
  | some (q, k, a, b) => ((s.put (.accepted a b)).modLane i (fun l => l.wrote q k)).popStep i q

/-- R127: a teardown write has been refused: it is not retried, and the halt reason is set once the context is reset. -/
def State.teardownRefused (s : State) (i : LaneId) (q : WriteSeq) (a : Addr) (b : List Byte) : State :=
  (s.put (.torn a b)).popStep i { q with failed := true }

/-- R154, R155: what a record owes after its result was not written through: a final result is kept as an owed
retirement; of FAILED and HALTED none is kept, not even that of a halted CLOSE (log 16). -/
def Record.unwritten (c : Record) (r : RecResult) (accepted : Bool) : Record :=
  if r.outcome.final then c.owe r accepted else { c with owed := none }

/-- R154, R155: the halt after a refused status or resume point write: the result that was final is kept as an owed
retirement, and the rest state HALTED and a FAILED notice follow. Under ABANDONING it is not reported (R125). -/
def State.haltUnwritten (s : State) (i : LaneId) (r : RecResult) (accepted : Bool) : State :=
  let t := s.modLane i (fun l => { l with cur := l.cur.map (fun c => c.unwritten r accepted) })
  if (s.lane i).state = .abandoning then t.modLane i (fun l => { l with io := .idle })
  else match (t.lane i).cur with
    | none => t
    | some c =>
      (t.modLane i (fun l => { l with haltReason := .hostAccess })).startSeq i .retiring .rehalt
        (haltSteps t i c .hostAccess r.notes r.progress) true

/-- R154: the write of an EMIT's result fields or of a status has been refused. -/
def State.statusRefused (s : State) (i : LaneId) : State :=
  match (s.lane i).headWrite with
  | some (q, .results, a, b) | some (q, .status, a, b) =>
    match q.kind with
    | .retire r => (s.put (.torn a b)).haltUnwritten i r false
    | .teardown => s.teardownRefused i q a b
    | .linkPass => s
    | .stop => s
    | .entryHalt => s
    | .rehalt => s
  | some (_, .resumePoint _, _, _) => s
  | some (_, .restState _, _, _) => s
  | none => s

/-- R155: the resume point write of a retirement has been refused after its status was accepted. -/
def State.resumePointRefused (s : State) (i : LaneId) : State :=
  match (s.lane i).headWrite with
  | some (q, .resumePoint _, a, b) =>
    match q.kind with
    | .retire r => (s.put (.torn a b)).haltUnwritten i r true
    | .teardown => s.teardownRefused i q a b
    | .linkPass => s
    | .stop => s
    | .entryHalt => s
    | .rehalt => s
  | some (_, .results, _, _) => s
  | some (_, .status, _, _) => s
  | some (_, .restState _, _, _) => s
  | none => s

/-- R156: a rest state write has been refused: the one last written is kept, the halt reason becomes HOST_ACCESS, and the
lane goes on as its event gives. -/
def State.restRefused (s : State) (i : LaneId) : State :=
  match (s.lane i).headWrite with
  | some (q, .restState _, a, b) =>
    if q.kind = .teardown then s.teardownRefused i q a b
    else ((s.put (.torn a b)).modLane i (fun l => { l with haltReason := .hostAccess })).popStep i q
  | some (_, .results, _, _) => s
  | some (_, .status, _, _) => s
  | some (_, .resumePoint _, _, _) => s
  | none => s

/-- R156: the resume point write of a passed LINK has been refused: the lane halts on the LINK with progress 0 (log 15).
Under ABANDONING it is not reported (R125). -/
def State.linkRefused (s : State) (i : LaneId) : State :=
  match (s.lane i).headWrite with
  | some (q, .resumePoint _, a, b) =>
    if q.kind = .linkPass then
      let t := (s.put (.torn a b)).modLane i (fun l => { (l.withEx (fun _ => ExecState.zero)) with io := .idle })
      if (s.lane i).state = .abandoning then t else t.failRecord i .hostAccess
    else s
  | some (_, .results, _, _) => s
  | some (_, .status, _, _) => s
  | some (_, .restState _, _, _) => s
  | none => s

/-- R156: the resume point write of a STOP has been refused: the lane enters STOPPED all the same. -/
def State.stopRefused (s : State) (i : LaneId) : State :=
  match (s.lane i).headWrite with
  | some (q, .resumePoint _, a, b) =>
    if q.kind = .stop then
      ((s.put (.torn a b)).modLane i (fun l => { l with haltReason := .hostAccess })).popStep i q
    else s
  | some (_, .results, _, _) => s
  | some (_, .status, _, _) => s
  | some (_, .restState _, _, _) => s
  | none => s

/-- R127: any write of a teardown has been refused. -/
def State.teardownWriteRefused (s : State) (i : LaneId) : State :=
  match (s.lane i).headWrite with
  | some (q, _, a, b) => if q.kind = .teardown then s.teardownRefused i q a b else s
  | none => s

/-- R127, R154, R155, R156: the head write of a sequence has been refused, as the sequence and the write give. A refused
rest state, and a STOP's refused resume point, let the sequence go on with the halt reason HOST_ACCESS. -/
def State.writeRefused (s : State) (i : LaneId) : State :=
  match (s.lane i).headWrite with
  | none => s
  | some (q, k, a, b) =>
    let goesOn := ((s.put (.torn a b)).modLane i (fun l => { l with haltReason := .hostAccess })).popStep i q
    match q.kind, k with
    | .teardown, _ => s.teardownRefused i q a b
    | .retire _, .results => s.statusRefused i
    | .retire _, .status => s.statusRefused i
    | .retire _, .resumePoint _ => s.resumePointRefused i
    | .linkPass, .resumePoint _ => s.linkRefused i
    | _, _ => goesOn

/-! ## The teardown (R126, R127) -/

/-- R134: whether a lane holds an engine. -/
def State.ownsEngine (s : State) (i : LaneId) : Bool :=
  decide (s.timing.owner = some i) || decide ((s.mixEng 0).owner = some i) || decide ((s.mixEng 1).owner = some i)

/-- R125: something of an ABANDONING lane is still in flight. A stale block read and an ignored poll are not waited
for. -/
def State.laneInFlight (s : State) (i : LaneId) : Bool :=
  decide ((s.lane i).io ≠ .idle) || decide ((s.lane i).gate.poll = .outstanding) || s.ownsEngine i

/-- R126: the resources given back as the teardown begins. -/
def Lane.giveBack (l : Lane) : Lane :=
  { l with store := [], lastStart := 0, table := [], intake := [], overrun := false, pf := l.pf.discard }

/-- R127: the resume point that a teardown writes. The length of a record held by its address alone is a free value (log
12). -/
def teardownTarget (s : State) (l : Lane) : Option Addr :=
  match l.cur with
  | none => l.next
  | some c =>
    match c.hdr with
    | some h => some (c.addr + BitVec.ofNat 64 h.len)
    | none => some (c.addr + (Config.unreadLength s.freeCtr).setWidth 64)

/-- R127: the result that a teardown reports for a current record: the progress and note bits of its execution state, for
a resumed record at its gate too (log 35). -/
def abandonedResult (c : Record) : RecResult :=
  { outcome := .abandoned, reason := .none, notes := c.ex.notes, progress := c.ex.progress }

/-- R127, point 1: the result fields and status, unless an owed retirement's status was accepted. -/
def teardownStatus (l : Lane) : List SeqStep :=
  match l.cur with
  | none => []
  | some c =>
    match c.owed with
    | some o => if o.accepted then [] else statusSteps c (abandonedResult c)
    | none => statusSteps c (abandonedResult c)

/-- R127, point 4: the ABANDONED notice. -/
def teardownNotice (s : State) (l : Lane) : Notice :=
  match l.cur with
  | some c => recordNotice c (abandonedResult c) .idle
  | none =>
    { addr := (teardownTarget s l).getD 0, tag := 0, outcome := .abandoned, reason := .none, notes := 0, progress := 0
      rest := .idle }

/-- R127: the writes of a teardown, in order. -/
def teardownSteps (s : State) (i : LaneId) : List SeqStep :=
  let l := s.lane i
  teardownStatus l
    ++ (match teardownTarget s l with
        | some a => [resumeStep s i a]
        | none => [])
    ++ restStep s i .idle ++ [.notice (teardownNotice s l)]

/-- R126: the teardown of an ABANDONING lane for which nothing remains in flight begins, unless HOLD is set. -/
def State.teardown (s : State) (i : LaneId) : State :=
  let l := s.lane i
  if l.state = .abandoning ∧ s.laneInFlight i = false ∧ s.hold = false then
    let t := ((s.modLane i Lane.giveBack).freeCues l.store.length).freeClips l.table.length
    ({ t with freeCtr := t.freeCtr + 1 } : State).startSeq i .abandoning .teardown (teardownSteps s i) true
  else s

end Sys2Proof.Machine
end

