-- ==== Sys2Proof/Machine/Link.lean ====
section
/-! DEFINITION. Bus mastering: while it is disabled, every transfer fails as it is asked for (R167, R171; log 5). -/

namespace Sys2Proof.Machine

open Sys2Proof

/-! ## The failure of a lane's transfers -/

/-- The state with a transfer's failure, where the transfer is in flight. -/
def failedWhen (inFlight : Bool) (failed : State) : Option State := if inFlight then some failed else none

/-- R59, R93: the transfer of a unit that an engine runs for lane i fails. -/
def State.failUnit (s : State) (i : LaneId) : Option State :=
  let timing (u : TimingUnit) : Bool := decide (s.timing.owner = some i) && decide (s.timing.unit = u)
  let mix (e : MixId) (p : MixPhase) : Bool := decide ((s.mixEng e).owner = some i) && decide ((s.mixEng e).phase = p)
  (failedWhen (timing .segWrite) s.segmentRefused).or <|
  (failedWhen (timing .compare) s.compareFailed).or <|
  (failedWhen (mix 0 .reading) (s.clipsFailed 0)).or <|
  (failedWhen (mix 0 .writing) (s.blockRefused 0)).or <|
  (failedWhen (mix 1 .reading) (s.clipsFailed 1)).or <|
  failedWhen (mix 1 .writing) (s.blockRefused 1)

/-- R85, R86, R100, R153: a read of lane i's own fails: its programme block, its gate poll, a directory entry, a record
or a batch of cues. -/
def State.failRead (s : State) (i : LaneId) : Option State :=
  match (s.lane i).pf.outstanding with
  | .live _ _ => some (s.blockFailed i)
  | .stale => some (s.staleEnded i)
  | .none =>
    if (s.lane i).gate.poll = .outstanding ∨ (s.lane i).gate.stale = true then some (s.pollFailed i)
    else match (s.lane i).io with
      | .read .entry true => some (s.entryFailed i)
      | .read .intake true => some (s.intakeFailed i)
      | .read (.header _) true => some (s.fetchFailed i)
      | .read (.body _) true => some (s.fetchFailed i)
      | .read _ false => none
      | .idle => none
      | .seq _ => none

/-- R127, R151, R154 to R156: a write of lane i's own is refused: its notice slot, or the head of its write sequence. -/
def State.failWrite (s : State) (i : LaneId) : Option State :=
  (failedWhen (s.lane i).slot.isSome (s.slotRefused i)).or <|
  failedWhen (s.lane i).headWrite.isSome (s.writeRefused i)

/-- One transfer that lane i has in flight fails; none when it has none. -/
def State.failOne (s : State) (i : LaneId) : Option State := ((s.failUnit i).or (s.failRead i)).or (s.failWrite i)

/-- The transfers that lane i has in flight fail one after another, `n` of them at most, those that their failures lead
to among them. -/
def State.failUpTo : Nat → State → LaneId → State
  | 0, s, _ => s
  | n + 1, s, i =>
    match s.failOne i with
    | some t => t.failUpTo n i
    | none => s

/-- How many transfers of lane i can fail one after another, at most: each step of its write sequence, and those of the
halts that the failures lead to. -/
def State.failBound (s : State) (i : LaneId) : Nat :=
  match (s.lane i).io with
  | .seq q => 64 + q.steps.length
  | .idle => 64
  | .read _ _ => 64

/-- R167: every transfer of lane i fails, until none is in flight. -/
def State.failAll (s : State) (i : LaneId) : State := s.failUpTo (s.failBound i) i

/-- R130, R167: the INSPECT's transfer in flight fails. -/
def State.failInspect (s : State) : State := s.inspectReadFailed.inspectRefused

/-! ## What a command asks of the link -/

/-- R167: what comes of t, a command's effect on s and on lane i: with bus mastering enabled the transfers asked for are
in flight; without it they fail in the same step. -/
def State.onLink (s : State) (i : LaneId) (t : State) : State := if s.bus.busMaster then t else t.failAll i

/-- R167: the same for a command of an engine, which asks for transfers of the lane it works for, if there is one. -/
def State.onLinkOf (s : State) (owner : Option LaneId) (t : State) : State :=
  match owner with
  | some i => s.onLink i t
  | none => t

/-- R167: the same for a command of the device, which may ask for transfers of every lane. -/
def State.onLinkAll (s t : State) : State := if s.bus.busMaster then t else laneIds.foldl State.failAll t

/-- R130, R167: the same for a command that asks for a transfer of the INSPECT. -/
def State.onLinkInspect (s t : State) : State := if s.bus.busMaster then t else t.failInspect

/-- R167: host software sets the bus mastering enable of configuration space, which is outside the table of commands
(log 5); what is in flight fails when the enable is cleared. -/
def State.setBusMaster (s : State) (on : Bool) : State :=
  let t : State := { s with bus := { s.bus with busMaster := on } }
  if on then t else (laneIds.foldl State.failAll t).failInspect

end Sys2Proof.Machine
end

