-- ==== Sys2Proof/Machine/HostActions.lean ====
section
/-! DEFINITION. The Command Port: the judgement of a LANE_CMD write and the six actions (R119 to R125, R129, R161); and
the read timeout, which reaches the lanes' reads and the INSPECT's (R152). -/

namespace Sys2Proof.Machine

open Sys2Proof

/-! ## Judgement (R119, R120) -/

/-- FETCHING to NOTICE_WAIT are the running states (R116). -/
def LaneState.running : LaneState → Bool
  | .fetching | .gated | .waitData | .queued | .working | .retiring | .noticeWait => true
  | .idle | .stopped | .halted | .abandoning => false

/-- The six actions. -/
inductive Action where
  | start | continueLane | resume | skip | abandon | inspect
  deriving DecidableEq, Repr

/-- Action codes (R165). -/
def Action.ofCode (code : BitVec 4) : Option Action :=
  match code.toNat with
  | 1 => some .start
  | 2 => some .continueLane
  | 3 => some .resume
  | 4 => some .skip
  | 5 => some .abandon
  | 6 => some .inspect
  | _ => none

/-- R120: whether an action is accepted in a lane's state; `held` says that DEV_STAT shows HELD. SKIP is refused for a
lane halted on its entry read, which holds no record (R124, R157). -/
def actionAccepted (a : Action) (l : Lane) (held : Bool) : Bool :=
  match a with
  | .start => decide (l.state = .idle)
  | .continueLane => l.state.running || decide (l.state = .stopped)
  | .resume => decide (l.state = .halted)
  | .skip => decide (l.state = .halted) && l.cur.isSome
  | .abandon => l.state.running || decide (l.state = .stopped) || decide (l.state = .halted)
  | .inspect =>
    decide (l.state = .idle) || decide (l.state = .stopped) || decide (l.state = .halted) || (l.state.running && held)

/-- R119: the result of a write that carries an action to a port that is not busy. -/
def judgeAction (s : State) (i : LaneId) (a : Action) : CmdResult :=
  if actionAccepted a (s.lane i) (decide (s.dev = .held)) then
    if a = .start ∧ s.dirBase = 0 then .refusedNoDirectory else .accepted
  else .refusedState

/-! ## The actions carried out -/

/-- R121: START. -/
def State.startLane (s : State) (i : LaneId) : State :=
  (s.modLane i (fun l => { l with cur := none, haltReason := .none })).startRead i .fetching .entry

/-- R122: CONTINUE. A STOPPED lane whose STOP writes are still in flight re-fetches once they have been accepted. -/
def State.continueNow (s : State) (i : LaneId) : State :=
  let l := s.lane i
  if l.state = .stopped then
    if l.deferred.isSome then s.modLane i (fun l => { l with state := .noticeWait, waitAct := .fetch })
    else if l.io = .idle then s.startRead i .fetching (.header false)
    else s.modLane i (fun l => { l with state := .fetching })
  else s.modLane i (fun l => { l with contPending := true })

/-- R124: RESUME. -/
def State.resumeAction (s : State) (i : LaneId) : State :=
  let t := s.modLane i (fun l => { l with haltReason := .none })
  if (s.lane i).deferred.isSome then t.modLane i (fun l => { l with state := .noticeWait, waitAct := .resume })
  else t.resumeNow i

/-- R124, R161: SKIP. -/
def State.skipAction (s : State) (i : LaneId) : State :=
  let t := s.modLane i (fun l => { l with haltReason := .none })
  if (s.lane i).deferred.isSome then t.modLane i (fun l => { l with state := .noticeWait, waitAct := .skip })
  else t.skipNow i

/-- R125: what of a lane's transfer stays in flight: what has been issued or begun. What still waits under HOLD is dropped,
the writes of a STOP, a passed LINK or an entry-read halt among it (log 41). -/
def LaneIO.inFlightOnly : LaneIO → LaneIO
  | .idle => .idle
  | .read r true => .read r true
  | .read _ false => .idle
  | .seq q => if q.begun then .seq q else .idle

/-- R102, R125: the gate ends without opening; a poll outstanding is let end. -/
def Gate.abandon (g : Gate) : Gate :=
  { g with deadline := 0, poll := if g.poll = .outstanding then .outstanding else .none }

/-- R125: ABANDON: the lane enters ABANDONING, its live block read becomes stale, and nothing new is issued. -/
def State.abandonLane (s : State) (i : LaneId) : State :=
  s.modLane i (fun l =>
    { l with
      state := .abandoning
      io := l.io.inFlightOnly
      gate := l.gate.abandon
      pf := { l.pf with outstanding := l.pf.outstanding.makeStale } })

/-- R129: INSPECT: the busy flag is set and the snapshot taken; DIR_BASE is kept as it stands (R164). -/
def State.startInspect (s : State) (i : LaneId) : State :=
  { s with port := { s.port with job := some { base := s.dirBase, snap := (s.lane i).snapshot i, phase := .entryRead } } }

/-- An accepted action, carried out, with what comes of the transfers it asks for (R167). ABANDON asks for none. -/
def State.perform (s : State) (i : LaneId) (a : Action) : State :=
  match a with
  | .start => s.onLink i (s.startLane i)
  | .continueLane => s.onLink i (s.continueNow i)
  | .resume => s.onLink i (s.resumeAction i)
  | .skip => s.onLink i (s.skipAction i)
  | .abandon => s.abandonLane i
  | .inspect => s.onLinkInspect (s.startInspect i)

/-- The Command Port after a write judged with a result other than REFUSED_BUSY (R119). -/
def CmdPort.judged (p : CmdPort) (i : LaneId) (code : BitVec 4) (r : CmdResult) : CmdPort :=
  { p with lastLane := i, lastAction := code, lastResult := r }

/-- R119: a LANE_CMD write that names lane i and an action code. -/
def State.laneCmd (s : State) (i : LaneId) (code : BitVec 4) : State :=
  if s.port.job.isSome then { s with port := { s.port with lastResult := .refusedBusy } }
  else match Action.ofCode code with
    | none => { s with port := s.port.judged i code .refusedAction }
    | some a =>
      let r := judgeAction s i a
      let t : State := { s with port := s.port.judged i code r }
      if r = .accepted then t.perform i a else t

/-! ## Read timeouts (R152) -/

/-- R152: the clip sample read of the lane that engine e works for has timed out. -/
def State.clipsTimeout (s : State) (i : LaneId) (e : MixId) : State :=
  if (s.mixEng e).owner = some i then s.onLink i (s.clipsFailed e) else s

/-- R152: the block read of a lane has timed out: a live read fails, a stale read ends. -/
def State.blockTimeout (s : State) (i : LaneId) : State :=
  if (s.lane i).pf.outstanding = .stale then s.staleEnded i else s.blockFailed i

/-- R152: a read has had no completion within 32 ms of its issue; the transfer fails as the failed read of its kind. -/
def State.readTimeout (s : State) (r : ReadRef) : State :=
  match r with
  | .lane .entry i => s.onLink i (s.entryFailed i)
  | .lane .record i => s.onLink i (s.fetchFailed i)
  | .lane .poll i => s.onLink i (s.pollFailed i)
  | .lane .intake i => s.onLink i (s.intakeFailed i)
  | .lane .compare i => if s.timing.owner = some i then s.onLinkOf (s.unitOwner .compare) s.compareFailed else s
  | .lane .clipSamples i => (s.clipsTimeout i 0).clipsTimeout i 1
  | .lane .block i => s.onLink i (s.blockTimeout i)
  | .inspectEntry => s.inspectReadFailed

end Sys2Proof.Machine
end

