-- ==== Sys2Proof/Machine/Registers.lean ====
section
/-! DEFINITION. The register window: reads, and the writes to NOTICE_PEND, NOTICE_MASK, DIR_BASE and DEV_CTRL; HOLD; device
reset (R146, R148, R163 to R172). -/

namespace Sys2Proof.Machine

open Sys2Proof

/-! ## Register reads (R163 to R166) -/

/-- DEV_STAT bits 31:16: set for every lane out of IDLE (R166). -/
def State.notIdleMask (s : State) : Nat :=
  (laneIds.map (fun i => if (s.lane i).state = .idle then 0 else 2 ^ i.val)).sum

/-- DEV_STAT (R166). -/
def State.devStat (s : State) : BitVec 32 :=
  BitVec.ofNat 32 (s.dev.code + (if s.timing.owner.isSome then 16 else 0) + (if (s.mixEng 0).owner.isSome then 32 else 0)
    + (if (s.mixEng 1).owner.isSome then 64 else 0) + 65536 * s.notIdleMask)

/-- R119: the Command Port's busy flag: an INSPECT is in progress. -/
def CmdPort.busy (p : CmdPort) : Bool := p.job.isSome

/-- A read of LANE_CMD (R165). -/
def CmdPort.read (p : CmdPort) : BitVec 32 :=
  BitVec.ofNat 32 (p.lastLane.val + 256 * p.lastAction.toNat + 65536 * p.lastResult.code
    + (if p.busy then 2147483648 else 0))

/-- R163: what a 32-bit read at a BAR offset returns; it has no effect. -/
def State.readReg (s : State) (offset : Nat) : BitVec 32 :=
  match offset with
  | 0x000 => s.dirBase.extractLsb' 0 32
  | 0x004 => s.dirBase.extractLsb' 32 32
  | 0x008 => s.port.read
  | 0x00C => s.pend.setWidth 32
  | 0x010 => s.mask.setWidth 32
  | 0x014 => if s.hold then 1 else 0
  | 0x018 => s.devStat
  | _ => 0

/-- R163: a read returns the addressed bytes: of one register, or, as two accesses with the lower address first, of two.
What lies past the 4 KiB of the BAR is no register and reads as 0 here (log 36). -/
def State.readBytes (s : State) (offset n : Nat) : List Byte :=
  ((leBytes 4 (s.readReg (offset / 4 * 4)).toNat ++ leBytes 4 (s.readReg (offset / 4 * 4 + 4)).toNat).drop
    (offset % 4)).take n

/-! ## NOTICE_PEND and NOTICE_MASK (R146, R148) -/

/-- R146: the deferred notice of a lane whose bit the host has cleared is written into the slot. -/
def Lane.releaseDeferred (l : Lane) : Lane :=
  match l.deferred, l.slot with
  | some n, none => { l with deferred := none, slot := some { notice := n, own := false, setsBit := true } }
  | some _, some _ => l
  | none, some _ => l
  | none, none => l

/-- R146: one bit of a write to NOTICE_PEND. -/
def State.clearPend (v : BitVec 32) (s : State) (i : LaneId) : State :=
  if v.getLsbD i.val && s.pend.getLsbD i.val then
    ({ s with pend := s.pend &&& ~~~(laneBit i) } : State).modLane i Lane.releaseDeferred
  else s

/-- R146: a write to NOTICE_PEND, each bit for its own lane. -/
def State.writePend (s : State) (v : BitVec 32) : State := laneIds.foldl (State.clearPend v) s

/-- R148: a write to NOTICE_MASK; one MSI when it raises a mask bit whose pending bit is set. -/
def State.writeMask (s : State) (v : BitVec 32) : State :=
  let new : BitVec 16 := v.setWidth 16
  let t := { s with mask := new }
  if new &&& ~~~s.mask &&& s.pend = 0 then t else t.askMsi

/-! ## DIR_BASE (R164) -/

/-- R164: every lane is IDLE. -/
def State.allIdle (s : State) : Bool := laneIds.all (fun i => decide ((s.lane i).state = .idle))

/-- R164: the base after a half is written, with bits 9:0 forced to 0. -/
def newDirBase (old : Addr) (half : DirHalf) (v : BitVec 32) : Addr :=
  match half with
  | .lo => old.extractLsb' 32 32 ++ (v &&& 0xFFFFFC00#32)
  | .hi => v ++ old.extractLsb' 0 32

/-- R164: a write to a half is taken only while every lane is IDLE. -/
def State.writeDirBase (s : State) (half : DirHalf) (v : BitVec 32) : State :=
  if s.allIdle then { s with dirBase := newDirBase s.dirBase half v } else s

/-! ## HOLD (R169, R170) -/

/-- R170: a lane's waiting read, or the first write of its waiting sequence, is issued. -/
def State.wakeIO (s : State) (i : LaneId) : State :=
  match (s.lane i).io with
  | .read r false => s.modLane i (fun l => { l with io := .read r true })
  | .read _ true => s
  | .seq q =>
    if q.begun then s else (s.modLane i (fun l => { l with io := .seq { q with begun := true } })).runSeq i
  | .idle => s

/-- R170: a gated lane's first poll that waited for HOLD is issued. -/
def Lane.wakePoll (l : Lane) : Lane :=
  if l.gate.poll = .due ∧ l.gate.stale = false then { l with gate := { l.gate with poll := .outstanding } } else l

/-- R170: one lane goes on from the state it holds. -/
def State.wake (s : State) (i : LaneId) : State := ((s.wakeIO i).modLane i Lane.wakePoll).prefetch i

/-- R166, R170: HOLD is cleared. -/
def State.holdCleared (s : State) : State :=
  if s.hold then laneIds.foldl State.wake { s with dev := .run } else s

/-- R169: a transfer of the lane's own is in flight. -/
def LaneIO.busy : LaneIO → Bool
  | .idle => false
  | .read _ issued => issued
  | .seq q => q.begun

/-- R169: nothing of the lane's is in flight, stale reads and ignored polls included; slot writes of released deferred
notices are not counted. -/
def Lane.quiet (l : Lane) : Bool :=
  !l.io.busy && decide (l.gate.poll ≠ .outstanding) && !l.gate.stale && decide (l.pf.outstanding = .none)

/-- R169: an INSPECT's read of the lane entry is not outstanding; its writes are not counted. -/
def CmdPort.quiet (p : CmdPort) : Bool :=
  match p.job with
  | some j => decide (j.phase ≠ .entryRead)
  | none => true

/-- R169: every read and write of the part is complete and no engine is owned. -/
def State.quiet (s : State) : Bool :=
  laneIds.all (fun i => (s.lane i).quiet) && s.timing.owner.isNone && (s.mixEng 0).owner.isNone
    && (s.mixEng 1).owner.isNone && s.port.quiet

/-! ## Device reset (R162, R171, R172) -/

/-- R162, R172: a write in flight at a reset: each byte may be old or new. -/
def Lane.tornWrites (l : Lane) (base : Addr) (i : LaneId) : List LinkWrite :=
  (match l.headWrite with
   | some (_, _, a, b) => [.torn a b]
   | none => [])
    ++ (match l.slot with
        | some w => [.torn (noticeSlotAddr base i) w.notice.bytes]
        | none => [])

/-- The area of an EMIT's segment, for the Timing Engine's write in flight. -/
def State.tornSegment (s : State) : List LinkWrite :=
  match s.timing.owner, s.timing.unit with
  | some i, .segWrite =>
    match (s.lane i).cur with
    | some c => [.torn ((EmitBody.ofBytes c.fields).area + BitVec.ofNat 64 c.ex.areaOff) s.timing.buffer]
    | none => []
  | _, _ => []

/-- The output block of a Mix Engine's write in flight. -/
def State.tornBlock (s : State) (e : MixId) : List LinkWrite :=
  let m := s.mixEng e
  match m.owner, m.phase with
  | some i, .writing =>
    match (s.lane i).mixBody, (s.lane i).pf.queue with
    | some b, .read off _ _ :: _ => [.torn (frameAddr b.out (s.lane i).par.chans off) (mixedBytes m.acc)]
    | _, _ => []
  | _, _ => []

/-- The image of an INSPECT being written. -/
def CmdPort.tornImage (p : CmdPort) : List LinkWrite :=
  match p.job with
  | some j =>
    match j.phase with
    | .writing a b => [.torn a b]
    | .entryRead => []
  | none => []

/-- R172: all writes in flight at a reset. -/
def State.tornAtReset (s : State) : List LinkWrite :=
  (laneIds.map (fun i => (s.lane i).tornWrites s.dirBase i)).flatten ++ s.tornSegment ++ s.tornBlock 0 ++ s.tornBlock 1
    ++ s.port.tornImage

/-- R171, R172: a device reset; configuration space keeps its state. -/
def State.deviceReset (s : State) : State :=
  { State.reset with
    bus := s.bus, wire := s.wire ++ s.tornAtReset, msiAsked := s.msiAsked, freeCtr := s.freeCtr, pending := s.pending }

/-- R171: a function-level reset or power-on also returns configuration space to its initial state. -/
def State.functionReset (s : State) : State := { s.deviceReset with bus := BusConfig.reset }

end Sys2Proof.Machine
end

