-- ==== Sys2Proof/Machine/Commands.lean ====
section
/-! DEFINITION. The meaning of each command: one definition for each row of spec/opcode_table.json, over the operations of
the families. Where a command may ask for transfers, `onLink` says what comes of them (R167). -/

namespace Sys2Proof.Machine

open Sys2Proof

/-! ## Directory entries and record fetches (R95 to R98, R152, R153, R158, R161) -/

/-- ENTRY_READ_COMPLETE (R95). -/
def execEntryReadComplete (i : LaneId) (start : Addr) (s : State) : Host.Outcome State Fault Refusal :=
  .next (s.onLink i (s.entryRead i start))

/-- ENTRY_READ_FAIL (R95, R153). -/
def execEntryReadFail (i : LaneId) (s : State) : Host.Outcome State Fault Refusal :=
  .next (s.onLink i (s.entryFailed i))

/-- RECORD_HEADER_READ_COMPLETE (R96, R97, R98, R158). -/
def execRecordHeaderReadComplete (i : LaneId) (header : BitVec 128) (s : State) : Host.Outcome State Fault Refusal :=
  .next (s.onLink i (s.headerRead i header))

/-- RECORD_BODY_READ_COMPLETE (R96). -/
def execRecordBodyReadComplete (i : LaneId) (bytes : List Byte) (s : State) : Host.Outcome State Fault Refusal :=
  .next (s.onLink i (s.bodyRead i bytes))

/-- RECORD_FETCH_READ_FAIL (R153). -/
def execRecordFetchReadFail (i : LaneId) (s : State) : Host.Outcome State Fault Refusal :=
  .next (s.onLink i (s.fetchFailed i))

/-- LATE_COMPLETION: a completion that arrives after its read's limit, or after a reset, is discarded (R152, R172). -/
def execLateCompletion (_r : ReadRef) (s : State) : Host.Outcome State Fault Refusal := .next s

/-! ## Gates (R100 to R102) -/

/-- GATE_POLL_COMPLETE (R100, R101). -/
def execGatePollComplete (i : LaneId) (word : BitVec 32) (s : State) : Host.Outcome State Fault Refusal :=
  .next (s.onLink i (s.pollDone i word))

/-- GATE_POLL_FAIL (R100). -/
def execGatePollFail (i : LaneId) (s : State) : Host.Outcome State Fault Refusal := .next (s.onLink i (s.pollFailed i))

/-- POLL_PHASE_EXPIRY: the next poll is issued; under HOLD the poll phase does not advance (R100, R101). -/
def execPollPhaseExpiry (i : LaneId) (s : State) : Host.Outcome State Fault Refusal :=
  .next (if (s.lane i).gate.poll = .phase ∧ s.hold = false then s.onLink i (s.endPoll i .outstanding) else s)

/-- GATE_TIMEOUT: the record expires; under HOLD gate time does not advance, it counts from the first poll, and a timeout
of 0 has no deadline (R101). -/
def execGateTimeout (i : LaneId) (s : State) : Host.Outcome State Fault Refusal :=
  .next
    (if (s.lane i).state = .gated ∧ (s.lane i).gate.deadline ≠ 0 ∧ s.hold = false
        ∧ ((s.lane i).gate.poll = .outstanding ∨ (s.lane i).gate.poll = .phase) then
       s.onLink i (s.failRecord i .gateTimeout)
     else s)

/-! ## Intake and the Timing Engine (R26 to R29, R46 to R60, R69, R132) -/

/-- INTAKE_READ_COMPLETE (R26, R27). -/
def execIntakeReadComplete (i : LaneId) (cues : List RawCue) (s : State) : Host.Outcome State Fault Refusal :=
  .next (s.onLink i (s.intakeDone i cues))

/-- INTAKE_READ_FAIL (R26, R153). -/
def execIntakeReadFail (i : LaneId) (s : State) : Host.Outcome State Fault Refusal :=
  .next (s.onLink i (s.intakeFailed i))

/-- TIMING_ENGINE_GRANT (R132). -/
def execTimingEngineGrant (s : State) : Host.Outcome State Fault Refusal :=
  .next (s.onLinkOf s.timingPick s.grantTiming)

/-- CUE_UNIT_END (R29). -/
def execCueUnitEnd (s : State) : Host.Outcome State Fault Refusal := .next (s.onLinkOf (s.unitOwner .cue) s.cueUnitEnds)

/-- CLIP_UNIT_END (R69). -/
def execClipUnitEnd (s : State) : Host.Outcome State Fault Refusal :=
  .next (s.onLinkOf (s.unitOwner .clip) s.clipUnitEnds)

/-- SEGMENT_WRITE_ACCEPTED (R53). -/
def execSegmentWriteAccepted (s : State) : Host.Outcome State Fault Refusal :=
  .next (s.onLinkOf (s.unitOwner .segWrite) s.segmentWritten)

/-- SEGMENT_WRITE_REFUSED (R59). -/
def execSegmentWriteRefused (s : State) : Host.Outcome State Fault Refusal :=
  .next (s.onLinkOf (s.unitOwner .segWrite) s.segmentRefused)

/-- COMPARE_READ_COMPLETE (R56). -/
def execCompareReadComplete (bytes : List Byte) (s : State) : Host.Outcome State Fault Refusal :=
  .next (s.onLinkOf (s.unitOwner .compare) (s.segmentCompared bytes))

/-- COMPARE_READ_FAIL (R59). -/
def execCompareReadFail (s : State) : Host.Outcome State Fault Refusal :=
  .next (s.onLinkOf (s.unitOwner .compare) s.compareFailed)

/-! ## Programme blocks and the Mix Engines (R82 to R94, R133) -/

/-- MIX_ENGINE_GRANT (R88, R133). -/
def execMixEngineGrant (s : State) : Host.Outcome State Fault Refusal := .next (s.onLinkOf s.mixGrantee s.grantMix)

/-- BLOCK_READ_COMPLETE (R83). -/
def execBlockReadComplete (i : LaneId) (bytes : List Byte) (s : State) : Host.Outcome State Fault Refusal :=
  .next (s.onLink i (s.blockRead i bytes))

/-- BLOCK_READ_FAIL (R85). -/
def execBlockReadFail (i : LaneId) (s : State) : Host.Outcome State Fault Refusal :=
  .next (s.onLink i (s.blockFailed i))

/-- STALE_READ_END (R86). -/
def execStaleReadEnd (i : LaneId) (s : State) : Host.Outcome State Fault Refusal := .next (s.onLink i (s.staleEnded i))

/-- CLIP_SAMPLE_READ_COMPLETE (R89). -/
def execClipSampleReadComplete (e : MixId) (runs : List (List Byte)) (s : State) : Host.Outcome State Fault Refusal :=
  .next (s.onLinkOf (s.mixEng e).owner (s.clipsRead e runs))

/-- CLIP_SAMPLE_READ_FAIL (R93). -/
def execClipSampleReadFail (e : MixId) (s : State) : Host.Outcome State Fault Refusal :=
  .next (s.onLinkOf (s.mixEng e).owner (s.clipsFailed e))

/-- MIX_OUTPUT_WRITE_ACCEPTED (R91). -/
def execMixOutputWriteAccepted (e : MixId) (s : State) : Host.Outcome State Fault Refusal :=
  .next (s.onLinkOf (s.mixEng e).owner (s.blockWritten e))

/-- MIX_OUTPUT_WRITE_REFUSED (R93). -/
def execMixOutputWriteRefused (e : MixId) (s : State) : Host.Outcome State Fault Refusal :=
  .next (s.onLinkOf (s.mixEng e).owner (s.blockRefused e))

/-! ## Write sequences and the teardown (R107, R108, R111, R126, R127, R153 to R156) -/

/-- RETIREMENT_WRITE_ACCEPTED (R111). -/
def execRetirementWriteAccepted (i : LaneId) (s : State) : Host.Outcome State Fault Refusal :=
  .next (s.onLink i (s.writeAccepted i))

/-- STATUS_WRITE_REFUSED (R154). -/
def execStatusWriteRefused (i : LaneId) (s : State) : Host.Outcome State Fault Refusal :=
  .next (s.onLink i (s.statusRefused i))

/-- RESUME_POINT_WRITE_REFUSED (R155). -/
def execResumePointWriteRefused (i : LaneId) (s : State) : Host.Outcome State Fault Refusal :=
  .next (s.onLink i (s.resumePointRefused i))

/-- REST_STATE_WRITE_REFUSED (R156). -/
def execRestStateWriteRefused (i : LaneId) (s : State) : Host.Outcome State Fault Refusal :=
  .next (s.onLink i (s.restRefused i))

/-- LINK_RESUME_POINT_REFUSED (R156). -/
def execLinkResumePointRefused (i : LaneId) (s : State) : Host.Outcome State Fault Refusal :=
  .next (s.onLink i (s.linkRefused i))

/-- STOP_RESUME_POINT_REFUSED (R156). -/
def execStopResumePointRefused (i : LaneId) (s : State) : Host.Outcome State Fault Refusal :=
  .next (s.onLink i (s.stopRefused i))

/-- TEARDOWN_WRITE_REFUSED (R127). -/
def execTeardownWriteRefused (i : LaneId) (s : State) : Host.Outcome State Fault Refusal :=
  .next (s.onLink i (s.teardownWriteRefused i))

/-- ABANDON_TEARDOWN (R126, R127). -/
def execAbandonTeardown (i : LaneId) (s : State) : Host.Outcome State Fault Refusal := .next (s.onLink i (s.teardown i))

/-! ## Notice slot writes and MSIs (R144 to R151) -/

/-- NOTICE_SLOT_WRITE_ACCEPTED (R144, R146, R150). -/
def execNoticeSlotWriteAccepted (i : LaneId) (s : State) : Host.Outcome State Fault Refusal :=
  .next (s.onLink i (s.slotAccepted i))

/-- NOTICE_SLOT_WRITE_REFUSED (R151). -/
def execNoticeSlotWriteRefused (i : LaneId) (s : State) : Host.Outcome State Fault Refusal :=
  .next (s.onLink i (s.slotRefused i))

/-- MSI_WRITE_REFUSED: not retried, and nothing changes (R149). -/
def execMsiWriteRefused (s : State) : Host.Outcome State Fault Refusal := .next s

/-! ## INSPECT (R130) -/

/-- INSPECT_ENTRY_READ_COMPLETE (R130). -/
def execInspectEntryReadComplete (bytes : BitVec 96) (s : State) : Host.Outcome State Fault Refusal :=
  .next (s.onLinkInspect (s.inspectRead bytes))

/-- INSPECT_ENTRY_READ_FAIL (R130). -/
def execInspectEntryReadFail (s : State) : Host.Outcome State Fault Refusal := .next s.inspectReadFailed

/-- INSPECT_DONE (R130). -/
def execInspectDone (s : State) : Host.Outcome State Fault Refusal := .next s.inspectWritten

/-- INSPECT_FAILED (R130). -/
def execInspectFailed (s : State) : Host.Outcome State Fault Refusal := .next s.inspectRefused

/-! ## LANE_CMD and read timeouts (R119 to R125, R129, R152, R161) -/

/-- START (R119, R121). -/
def execStart (i : LaneId) (s : State) : Host.Outcome State Fault Refusal := .next (s.laneCmd i 1)

/-- CONTINUE (R119, R122). -/
def execContinueLane (i : LaneId) (s : State) : Host.Outcome State Fault Refusal := .next (s.laneCmd i 2)

/-- RESUME (R119, R124). -/
def execResume (i : LaneId) (s : State) : Host.Outcome State Fault Refusal := .next (s.laneCmd i 3)

/-- SKIP (R119, R124, R161). -/
def execSkip (i : LaneId) (s : State) : Host.Outcome State Fault Refusal := .next (s.laneCmd i 4)

/-- ABANDON (R119, R125). -/
def execAbandon (i : LaneId) (s : State) : Host.Outcome State Fault Refusal := .next (s.laneCmd i 5)

/-- INSPECT (R119, R129). -/
def execInspect (i : LaneId) (s : State) : Host.Outcome State Fault Refusal := .next (s.laneCmd i 6)

/-- REFUSED_ACTION: a LANE_CMD write with an action code that is none of the six (R119, R165). -/
def execRefusedAction (i : LaneId) (code : BitVec 4) (s : State) : Host.Outcome State Fault Refusal :=
  .next (s.laneCmd i code)

/-- READ_TIMEOUT (R152). -/
def execReadTimeout (r : ReadRef) (s : State) : Host.Outcome State Fault Refusal := .next (s.readTimeout r)

/-! ## The other registers, HOLD and device reset (R146, R148, R163 to R172) -/

/-- NOTICE_PEND_WRITE (R146). -/
def execNoticePendWrite (v : BitVec 32) (s : State) : Host.Outcome State Fault Refusal :=
  .next (s.onLinkAll (s.writePend v))

/-- NOTICE_MASK_WRITE (R148). -/
def execNoticeMaskWrite (v : BitVec 32) (s : State) : Host.Outcome State Fault Refusal := .next (s.writeMask v)

/-- DIR_BASE_WRITE (R164). -/
def execDirBaseWrite (half : DirHalf) (v : BitVec 32) (s : State) : Host.Outcome State Fault Refusal :=
  .next (s.writeDirBase half v)

/-- HOLD_SET: HOLDING, unless HOLD is set already (R166, R169). -/
def execHoldSet (s : State) : Host.Outcome State Fault Refusal :=
  .next (if s.hold then s else { s with dev := .holding })

/-- HOLD_CLEAR (R166, R170). -/
def execHoldClear (s : State) : Host.Outcome State Fault Refusal :=
  .next (if s.hold then s.onLinkAll s.holdCleared else s)

/-- HOLD_DRAIN_COMPLETE: HOLDING becomes HELD once nothing is in flight (R169). -/
def execHoldDrainComplete (s : State) : Host.Outcome State Fault Refusal :=
  .next (if s.dev = .holding ∧ s.quiet = true then { s with dev := .held } else s)

/-- DEV_CTRL_RESET (R166, R171, R172). -/
def execDevCtrlReset (s : State) : Host.Outcome State Fault Refusal := .next s.deviceReset

/-- REGISTER_WRITE_IGNORED (R163, R166). -/
def execRegisterWriteIgnored (_offset : BitVec 12) (_nbytes : Nat) (_v : BitVec 32) (s : State) :
    Host.Outcome State Fault Refusal := .next s

/-- FUNCTION_LEVEL_RESET (R171). -/
def execFunctionLevelReset (s : State) : Host.Outcome State Fault Refusal := .next s.functionReset

/-- POWER_ON (R171). -/
def execPowerOn (s : State) : Host.Outcome State Fault Refusal := .next s.functionReset

end Sys2Proof.Machine
end

