-- ==== Sys2Proof/Machine/Dispatch.lean ====
section
/-! DEFINITION. exec: one arm for each row of spec/opcode_table.json. -/

namespace Sys2Proof.Machine

open Sys2Proof

def exec (i : Instr) (s : State) : Host.Outcome State Fault Refusal :=
  match i with
  | .start l => Sys2Proof.Machine.execStart l s
  | .continueLane l => Sys2Proof.Machine.execContinueLane l s
  | .resume l => Sys2Proof.Machine.execResume l s
  | .skip l => Sys2Proof.Machine.execSkip l s
  | .abandon l => Sys2Proof.Machine.execAbandon l s
  | .inspect l => Sys2Proof.Machine.execInspect l s
  | .refusedAction l code => Sys2Proof.Machine.execRefusedAction l code s
  | .noticePendWrite v => Sys2Proof.Machine.execNoticePendWrite v s
  | .noticeMaskWrite v => Sys2Proof.Machine.execNoticeMaskWrite v s
  | .dirBaseWrite half v => Sys2Proof.Machine.execDirBaseWrite half v s
  | .holdSet => Sys2Proof.Machine.execHoldSet s
  | .holdClear => Sys2Proof.Machine.execHoldClear s
  | .devCtrlReset => Sys2Proof.Machine.execDevCtrlReset s
  | .registerWriteIgnored offset nbytes v => Sys2Proof.Machine.execRegisterWriteIgnored offset nbytes v s
  | .functionLevelReset => Sys2Proof.Machine.execFunctionLevelReset s
  | .powerOn => Sys2Proof.Machine.execPowerOn s
  | .entryReadComplete l start => Sys2Proof.Machine.execEntryReadComplete l start s
  | .entryReadFail l => Sys2Proof.Machine.execEntryReadFail l s
  | .recordHeaderReadComplete l header => Sys2Proof.Machine.execRecordHeaderReadComplete l header s
  | .recordBodyReadComplete l bytes => Sys2Proof.Machine.execRecordBodyReadComplete l bytes s
  | .recordFetchReadFail l => Sys2Proof.Machine.execRecordFetchReadFail l s
  | .gatePollComplete l word => Sys2Proof.Machine.execGatePollComplete l word s
  | .gatePollFail l => Sys2Proof.Machine.execGatePollFail l s
  | .pollPhaseExpiry l => Sys2Proof.Machine.execPollPhaseExpiry l s
  | .gateTimeout l => Sys2Proof.Machine.execGateTimeout l s
  | .readTimeout r => Sys2Proof.Machine.execReadTimeout r s
  | .lateCompletion r => Sys2Proof.Machine.execLateCompletion r s
  | .intakeReadComplete l cues => Sys2Proof.Machine.execIntakeReadComplete l cues s
  | .intakeReadFail l => Sys2Proof.Machine.execIntakeReadFail l s
  | .timingEngineGrant => Sys2Proof.Machine.execTimingEngineGrant s
  | .mixEngineGrant => Sys2Proof.Machine.execMixEngineGrant s
  | .cueUnitEnd => Sys2Proof.Machine.execCueUnitEnd s
  | .clipUnitEnd => Sys2Proof.Machine.execClipUnitEnd s
  | .segmentWriteAccepted => Sys2Proof.Machine.execSegmentWriteAccepted s
  | .segmentWriteRefused => Sys2Proof.Machine.execSegmentWriteRefused s
  | .compareReadComplete bytes => Sys2Proof.Machine.execCompareReadComplete bytes s
  | .compareReadFail => Sys2Proof.Machine.execCompareReadFail s
  | .blockReadComplete l bytes => Sys2Proof.Machine.execBlockReadComplete l bytes s
  | .blockReadFail l => Sys2Proof.Machine.execBlockReadFail l s
  | .staleReadEnd l => Sys2Proof.Machine.execStaleReadEnd l s
  | .clipSampleReadComplete e runs => Sys2Proof.Machine.execClipSampleReadComplete e runs s
  | .clipSampleReadFail e => Sys2Proof.Machine.execClipSampleReadFail e s
  | .mixOutputWriteAccepted e => Sys2Proof.Machine.execMixOutputWriteAccepted e s
  | .mixOutputWriteRefused e => Sys2Proof.Machine.execMixOutputWriteRefused e s
  | .retirementWriteAccepted l => Sys2Proof.Machine.execRetirementWriteAccepted l s
  | .statusWriteRefused l => Sys2Proof.Machine.execStatusWriteRefused l s
  | .resumePointWriteRefused l => Sys2Proof.Machine.execResumePointWriteRefused l s
  | .restStateWriteRefused l => Sys2Proof.Machine.execRestStateWriteRefused l s
  | .linkResumePointRefused l => Sys2Proof.Machine.execLinkResumePointRefused l s
  | .stopResumePointRefused l => Sys2Proof.Machine.execStopResumePointRefused l s
  | .teardownWriteRefused l => Sys2Proof.Machine.execTeardownWriteRefused l s
  | .noticeSlotWriteAccepted l => Sys2Proof.Machine.execNoticeSlotWriteAccepted l s
  | .noticeSlotWriteRefused l => Sys2Proof.Machine.execNoticeSlotWriteRefused l s
  | .msiWriteRefused => Sys2Proof.Machine.execMsiWriteRefused s
  | .abandonTeardown l => Sys2Proof.Machine.execAbandonTeardown l s
  | .holdDrainComplete => Sys2Proof.Machine.execHoldDrainComplete s
  | .inspectEntryReadComplete bytes => Sys2Proof.Machine.execInspectEntryReadComplete bytes s
  | .inspectEntryReadFail => Sys2Proof.Machine.execInspectEntryReadFail s
  | .inspectDone => Sys2Proof.Machine.execInspectDone s
  | .inspectFailed => Sys2Proof.Machine.execInspectFailed s

end Sys2Proof.Machine
end

