-- ==== Sys2Proof/Machine/Reads.lean ====
section
/-! DEFINITION. Where the reads in flight go: an observer of the state, which no step uses. It says which bytes of host
memory each outstanding read asks for (R82, R88, R95, R96, R100, R26, R56, R130). -/

namespace Sys2Proof.Machine

open Sys2Proof

/-- The range of a lane's own read that has been issued: address and length. An intake read is shown by the fixed part of
its first cue, since its further extent follows from the text lengths found (R26; log 42). -/
def State.ownReads (s : State) (i : LaneId) : List (ReadRef × Addr × Nat) :=
  let l := s.lane i
  match l.io with
  | .read .entry true => [(.lane .entry i, laneEntry s.dirBase i, 8)]
  | .read (.header _) true => [(.lane .record i, l.fetchAddr, 16)]
  | .read (.body h) true => [(.lane .record i, l.fetchAddr + 16, h.len - 16)]
  | .read .intake true =>
    match l.cur with
    | some c => [(.lane .intake i, (CuesBody.ofBytes c.fields).addr + BitVec.ofNat 64 c.ex.cursor, 16)]
    | none => []
  | .read _ false => []
  | .idle => []
  | .seq _ => []

/-- The gate poll of a lane (R100). -/
def State.pollReads (s : State) (i : LaneId) : List (ReadRef × Addr × Nat) :=
  match (s.lane i).gate.poll, (s.lane i).cur with
  | .outstanding, some c => [(.lane .poll i, c.gateAddr, 4)]
  | _, _ => []

/-- The live block read of a lane (R80, R82). -/
def State.blockReads (s : State) (i : LaneId) : List (ReadRef × Addr × Nat) :=
  let l := s.lane i
  match l.pf.outstanding, l.mixBody with
  | .live off k, some b => [(.lane .block i, frameAddr b.prog l.par.chans off, 2 * (k * l.par.chans))]
  | _, _ => []

/-- The clip sample reads of a Mix unit, one run for each entry the block needs (R88). -/
def State.clipReads (s : State) (e : MixId) : List (ReadRef × Addr × Nat) :=
  let m := s.mixEng e
  match m.owner, m.phase with
  | some i, .reading =>
    let l := s.lane i
    match l.headBlock with
    | some (off, k, _) =>
      (neededClips m.view l.par.chans (l.base + off) k).map (fun x =>
        (.lane .clipSamples i, x.pcm + BitVec.ofNat 64 (2 * runFirst x (l.base + off)), 2 * runCount x (l.base + off) k))
    | none => []
  | _, _ => []

/-- The compare read of an EMIT unit (R56). -/
def State.compareReads (s : State) : List (ReadRef × Addr × Nat) :=
  match s.timing.owner, s.timing.unit with
  | some i, .compare =>
    match (s.lane i).cur with
    | some c => [(.lane .compare i, segmentAddr c, s.timing.buffer.length)]
    | none => []
  | _, _ => []

/-- The INSPECT read of a lane entry, against DIR_BASE as it stood at acceptance (R130, R164, R174). -/
def CmdPort.entryReads (p : CmdPort) : List (ReadRef × Addr × Nat) :=
  match p.job with
  | some j =>
    match j.phase with
    | .entryRead => [(.inspectEntry, laneEntry j.base j.snap.lane + 8, 12)]
    | .writing _ _ => []
  | none => []

/-- Every read in flight that the part still waits for. -/
def State.readsInFlight (s : State) : List (ReadRef × Addr × Nat) :=
  (laneIds.map (fun i => s.ownReads i ++ s.pollReads i ++ s.blockReads i)).flatten ++ s.clipReads 0 ++ s.clipReads 1
    ++ s.compareReads ++ s.port.entryReads

end Sys2Proof.Machine
end

