-- ==== Sys2Proof/Safety.lean ====
section
/-! DEFINITION. What counts as a sound state of the part, in the terms that the claims use: each predicate says a law that
the manual states, or (marked so) what the model's own bookkeeping adds to it. -/

namespace Sys2Proof.Machine

open Sys2Proof

/-! ## The pools (R17, R61) -/

/-- The cue slots that all lanes' stores hold together. -/
def State.cuesHeld (s : State) : Nat := (laneIds.map (fun i => (s.lane i).store.length)).sum

/-- The clip entries that all lanes' tables hold together. -/
def State.clipsHeld (s : State) : Nat := (laneIds.map (fun i => (s.lane i).table.length)).sum

/-- R17, R61: held places and free places make up each pool. -/
def State.PoolsWhole (s : State) : Prop :=
  s.cuesHeld + s.cueFree = Config.cuePool ∧ s.clipsHeld + s.clipFree = Config.clipPool

/-! ## One cue store (R18, R20, R21, R23) -/

/-- R20, R21, R22, R33, R34: every entry has start < end within the time range, the store is in nondecreasing start
order and within the quota, and no start lies beyond both last_start and the horizon. -/
def Lane.StoreOrdered (l : Lane) : Prop :=
  (∀ e ∈ l.store, e.start < e.stop ∧ e.stop ≤ maxTime ∧ e.start ≤ max l.lastStart l.horizon)
    ∧ l.store.Pairwise (fun e f => e.start ≤ f.start) ∧ l.store.length ≤ l.par.quota

/-- R23, R38: of two entries of one position slot, the earlier ends at or before the later's start and is not the latest
reference; and every slot that holds an entry has a latest reference in the store. -/
def Lane.SlotsApart (l : Lane) : Prop :=
  l.store.Pairwise (fun e f => e.slot = f.slot → e.stop ≤ f.start ∧ e.latest = false)
    ∧ ∀ e ∈ l.store, ∃ f ∈ l.store, f.slot = e.slot ∧ f.latest = true

/-! ## One clip table (R67, R71, R73) -/

/-- How many bodies of a table cover sample n (R71). -/
def bodiesAt (table : List ClipEntry) (n : Nat) : Nat :=
  (table.filter (fun e => decide (e.start ≤ n) && decide (n < e.start + e.len))).length

/-- R67, R71, R73: the table is in start order and within the quota, no sample is covered by more than four bodies, and
the gains are within their clamps. -/
def Lane.TableSound (l : Lane) : Prop :=
  l.table.Pairwise (fun e f => e.start ≤ f.start) ∧ l.table.length ≤ l.par.quota ∧ (∀ n, bodiesAt l.table n ≤ 4)
    ∧ ∀ e ∈ l.table, e.gain ≤ 32767 ∧ e.duck ≤ 16384

/-! ## One programme queue (R81, R83, R84) -/

/-- R81, R83: at most 3 blocks, at most 2 while the pause flag is clear, and no live read while it is set. -/
def Prefetch.Sound (p : Prefetch) : Prop :=
  p.queue.length ≤ 3 ∧ (p.paused = false → p.queue.length ≤ 2)
    ∧ ∀ off k, p.outstanding = .live off k → p.paused = false

/-! ## Counters and note bits (R136 to R138) -/

/-- R137, R138: every counter and total is at most 2^32 − 1. -/
def Lane.CountersInRange (l : Lane) : Prop :=
  (∀ k : Fin 14, l.counters.get k ≤ maxCount) ∧ l.segTotal ≤ maxCount ∧ l.frmTotal ≤ maxCount

/-- Bits 14 and 15 of some note bits are clear. -/
def NotesInRange (b : BitVec 16) : Prop := b.getLsbD 14 = false ∧ b.getLsbD 15 = false

/-- The note bits of a result that a write sequence reports. -/
def SeqKind.result : SeqKind → Option RecResult
  | .retire r => some r
  | .linkPass => none
  | .stop => none
  | .entryHalt => none
  | .rehalt => none
  | .teardown => none

/-- The sequence in a lane's transfer. -/
def LaneIO.seq? : LaneIO → Option WriteSeq
  | .seq q => some q
  | .idle => none
  | .read _ _ => none

/-- R136: bits 14 and 15 are clear in the note bits that a lane holds: of its record, of an owed retirement, of the result
that a retirement reports. -/
def Lane.NoteBitsInRange (l : Lane) : Prop :=
  (∀ c ∈ l.cur, NotesInRange c.ex.notes ∧ ∀ o ∈ c.owed, NotesInRange o.res.notes)
    ∧ ∀ q ∈ l.io.seq?, ∀ r ∈ q.kind.result, NotesInRange r.notes

/-! ## What may be in flight in each lane state (R116, R118, R131, R143, R145) -/

/-- R116: a lane's own transfer against its state. An ABANDONING lane has only what was issued before, or its teardown,
which runs on a lane that has given its places back. `owned` says that the lane holds an engine. -/
def Lane.TransferFits (l : Lane) (owned : Bool) : Prop :=
  match l.io with
  | .idle => True
  | .read .intake issued => l.state = .waitData ∨ (l.state = .abandoning ∧ issued = true)
  | .read _ issued => l.state = .fetching ∨ (l.state = .abandoning ∧ issued = true)
  | .seq q =>
    match q.kind with
    | .retire _ => l.state = .retiring ∨ (l.state = .abandoning ∧ q.begun = true)
    | .entryHalt => l.state = .retiring ∨ (l.state = .abandoning ∧ q.begun = true)
    | .rehalt => l.state = .retiring ∨ (l.state = .abandoning ∧ q.begun = true)
    | .linkPass => l.state = .fetching ∨ (l.state = .abandoning ∧ q.begun = true)
    | .stop => l.state = .stopped ∨ l.state = .fetching ∨ (l.state = .abandoning ∧ q.begun = true)
    | .teardown =>
      l.state = .abandoning ∧ q.begun = true ∧ l.store = [] ∧ l.table = [] ∧ owned = false
        ∧ ∃ n, q.steps.getLast? = some (.notice n)

/-- R100, R102, R116: a gate poll belongs to a GATED lane, or is let end in an ABANDONING one. -/
def Lane.PollFits (l : Lane) : Prop :=
  l.gate.poll ≠ .none → l.state = .gated ∨ (l.state = .abandoning ∧ l.gate.poll = .outstanding)

/-- R82, R116, R125: a live block read belongs to a lane that waits for data, waits for an engine, or works. -/
def Lane.BlockReadFits (l : Lane) : Prop :=
  ∀ off k, l.pf.outstanding = .live off k → l.state = .waitData ∨ l.state = .queued ∨ l.state = .working

/-- R118, R143, R145: a lane with a deferred notice has no slot write in flight; it waits, rests or is abandoned with no
transfer of its own, or its teardown is on the way to discard the notice. -/
def Lane.DeferredFits (l : Lane) : Prop :=
  l.deferred.isSome = true → l.slot = none
    ∧ (((l.state = .noticeWait ∨ l.state = .stopped ∨ l.state = .halted ∨ l.state = .abandoning) ∧ l.io = .idle)
        ∨ ∃ q, l.io = .seq q ∧ q.kind = .teardown)

/-- R116, R125, R131, R134: a lane that holds an engine is WORKING, or ABANDONING with its unit in flight. -/
def Lane.EngineFits (l : Lane) (owned : Bool) : Prop := owned = true → l.state = .working ∨ l.state = .abandoning

/-- R131: no lane holds two engines. -/
def State.EnginesApart (s : State) : Prop :=
  (∀ i, s.timing.owner = some i → (s.mixEng 0).owner ≠ some i ∧ (s.mixEng 1).owner ≠ some i)
    ∧ ∀ i, (s.mixEng 0).owner = some i → (s.mixEng 1).owner ≠ some i

/-- R116, R118, R131: every lane holds what its state allows, and no lane holds two engines. -/
def State.Shapely (s : State) : Prop :=
  s.EnginesApart
    ∧ ∀ i, (s.lane i).TransferFits (s.ownsEngine i) ∧ (s.lane i).PollFits ∧ (s.lane i).BlockReadFits
        ∧ (s.lane i).DeferredFits ∧ (s.lane i).EngineFits (s.ownsEngine i)

/-! ## What has been put in flight (R169) -/

/-- A transfer of the lane's own has been issued: a read, or the first write of a sequence. -/
def LaneIO.issued : LaneIO → Bool
  | .idle => false
  | .read _ b => b
  | .seq q => q.begun

/-! ## The shape of commands and of their results, for the frames -/

/-- The lane that a command names; none for commands of the device, of an engine or of the INSPECT in progress. -/
def addressee (c : Instr) : Option LaneId :=
  match c with
  | .start i | .continueLane i | .resume i | .skip i | .abandon i | .inspect i | .refusedAction i _ => some i
  | .entryReadComplete i _ | .entryReadFail i | .recordHeaderReadComplete i _ | .recordBodyReadComplete i _ => some i
  | .recordFetchReadFail i | .gatePollComplete i _ | .gatePollFail i | .pollPhaseExpiry i | .gateTimeout i => some i
  | .intakeReadComplete i _ | .intakeReadFail i | .blockReadComplete i _ | .blockReadFail i | .staleReadEnd i => some i
  | .retirementWriteAccepted i | .statusWriteRefused i | .resumePointWriteRefused i | .restStateWriteRefused i => some i
  | .linkResumePointRefused i | .stopResumePointRefused i | .teardownWriteRefused i => some i
  | .noticeSlotWriteAccepted i | .noticeSlotWriteRefused i | .abandonTeardown i => some i
  | .readTimeout (.lane _ i) | .lateCompletion (.lane _ i) => some i
  | .readTimeout .inspectEntry | .lateCompletion .inspectEntry => none
  | .noticePendWrite _ | .noticeMaskWrite _ | .dirBaseWrite _ _ | .holdSet | .holdClear | .devCtrlReset => none
  | .registerWriteIgnored _ _ _ | .functionLevelReset | .powerOn | .holdDrainComplete | .msiWriteRefused => none
  | .timingEngineGrant | .mixEngineGrant | .cueUnitEnd | .clipUnitEnd | .segmentWriteAccepted => none
  | .segmentWriteRefused | .compareReadComplete _ | .compareReadFail | .clipSampleReadComplete _ _ => none
  | .clipSampleReadFail _ | .mixOutputWriteAccepted _ | .mixOutputWriteRefused _ => none
  | .inspectEntryReadComplete _ | .inspectEntryReadFail | .inspectDone | .inspectFailed => none

/-- R171: the commands that are resets. -/
def isReset (c : Instr) : Bool := decide (c = .devCtrlReset) || decide (c = .functionLevelReset) || decide (c = .powerOn)

/-- R119: the state after a LANE_CMD write that is stored with a result, but for what an accepted action does. -/
def State.cmdTaken (s : State) (i : LaneId) (code : BitVec 4) (r : CmdResult) : State :=
  { s with port := { s.port with lastLane := i, lastAction := code, lastResult := r } }

/-- R111, R169: a write sequence as it starts: not begun under HOLD. -/
def newSeq (s : State) (k : SeqKind) (steps : List SeqStep) : LaneIO :=
  .seq { kind := k, steps := steps, begun := !s.hold, failed := false }

/-- R26, R86, R101, R153: the lane context of a record that stops being worked on: queue discarded, a live read of it
stale; intake buffer empty; gate cleared. -/
def Lane.workEnded (l : Lane) : Lane :=
  { l with
    pf := { queue := [], paused := false, cursor := 0, stopped := false
            outstanding := if l.pf.outstanding = .none then .none else .stale }
    intake := []
    overrun := false
    gate := { deadline := 0, poll := .none, stale := l.gate.stale || decide (l.gate.poll = .outstanding) } }

/-- R109, R111: lane i as the retirement of its current record c begins: RETIRING, with the writes of `retireSteps`. -/
def Lane.retiring (s : State) (i : LaneId) (l : Lane) (c : Record) (o : RecOutcome) (why : Reason) : Lane :=
  let r : RecResult := { outcome := o, reason := why, notes := c.ex.notes, progress := c.ex.progress }
  { l.workEnded with
    state := .retiring
    cur := some c
    haltReason := if o.final then l.haltReason else why
    io := newSeq s (.retire r) (retireSteps (s.setLane i l) i c r true) }

/-- R107, R108, R111, R145: the lane after the event that a sequence other than a teardown belongs to; `kept` says that its
notice was kept as deferred. -/
def Lane.eventEnded (l : Lane) (q : WriteSeq) (kept hold : Bool) : Lane :=
  let fetches : Lane := { l with state := .fetching, io := .read (.header false) (!hold) }
  let goesOn : Lane := if kept then { l with state := .noticeWait, waitAct := .fetch, io := .idle } else fetches
  let halts : Lane := { l with state := .halted, io := .idle }
  if l.state = .abandoning then { l with io := .idle }
  else match q.kind with
    | .retire r => if r.outcome = .failed ∨ r.outcome = .halted then halts else goesOn
    | .linkPass => goesOn
    | .stop => if l.state = .stopped then { l with io := .idle } else goesOn
    | .entryHalt => halts
    | .rehalt => halts
    | .teardown => l

/-- R144, R145, R150: the lane after a notice of its sequence is handed over, with a slot write of the lane in flight or
not; `pend` says that its pending bit is set. -/
def Lane.noticeHanded (l : Lane) (q : WriteSeq) (n : Notice) (pend hold : Bool) : Lane :=
  if l.slot ≠ none then l
  else if q.kind = .teardown then
    { l with deferred := none, slot := some { notice := n, own := true, setsBit := !pend } }
  else if pend then { l.eventEnded q true hold with deferred := some n }
  else { l with slot := some { notice := n, own := true, setsBit := true } }

/-- R144, R146, R148, R150, R151: the state, but for lane i's context, after the slot write w has ended with what x lists on
the link: the pending bit is set where w sets it, and a rise under a set mask bit asks for one MSI. -/
def State.noticePosted (s : State) (i : LaneId) (w : SlotWrite) (x : List LinkWrite) : State :=
  let rises : Bool := w.setsBit && !s.pend.getLsbD i.val && s.mask.getLsbD i.val
  { s with
    pend := if w.setsBit then s.pend ||| laneBit i else s.pend
    msiAsked := s.msiAsked + (if rises then 1 else 0)
    wire := s.wire ++ x
      ++ (if rises && s.bus.msiEnable && s.bus.busMaster then [.msi s.bus.msiAddr s.bus.msiData] else []) }

/-! ## Bus mastering (R167) -/

/-- R167: nothing of lane i's is in flight: no read, no poll, not even a stale or ignored one, no write of its sequence or
its notice slot, no transfer of a unit that an engine runs for it. -/
def State.NothingAsked (s : State) (i : LaneId) : Prop :=
  (∀ r, (s.lane i).io ≠ .read r true)
    ∧ (∀ q k a b rest, (s.lane i).io = .seq q → q.begun = true → q.steps ≠ .write k a b :: rest)
    ∧ (s.lane i).slot = none ∧ (s.lane i).pf.outstanding = .none
    ∧ (s.lane i).gate.poll ≠ .outstanding ∧ (s.lane i).gate.stale = false
    ∧ ¬(s.timing.owner = some i ∧ (s.timing.unit = .segWrite ∨ s.timing.unit = .compare))
    ∧ ∀ e : MixId, (s.mixEng e).owner = some i → (s.mixEng e).phase = .idle

/-- R127, R154 to R156: the command that says a write of a sequence is refused; none for a write that the sequence never
makes. -/
def SeqKind.refusal (q : SeqKind) (k : WriteKind) (i : LaneId) : Option Instr :=
  match q, k with
  | .teardown, _ => some (.teardownWriteRefused i)
  | .retire _, .results => some (.statusWriteRefused i)
  | .retire _, .status => some (.statusWriteRefused i)
  | .retire _, .resumePoint _ => some (.resumePointWriteRefused i)
  | .linkPass, .resumePoint _ => some (.linkResumePointRefused i)
  | .stop, .resumePoint _ => some (.stopResumePointRefused i)
  | _, .restState _ => some (.restStateWriteRefused i)
  | _, _ => none

/-- R59, R85, R86, R93, R95, R100, R151, R153 to R156: the commands by which a transfer of lane i's can fail in s. -/
def failuresOf (s : State) (i : LaneId) : List Instr :=
  [.entryReadFail i, .recordFetchReadFail i, .gatePollFail i, .intakeReadFail i, .blockReadFail i, .staleReadEnd i,
   .noticeSlotWriteRefused i]
    ++ (if s.timing.owner = some i then [.segmentWriteRefused, .compareReadFail] else [])
    ++ ([0, 1].filter (fun e : MixId => decide ((s.mixEng e).owner = some i))).flatMap
      (fun e => [.clipSampleReadFail e, .mixOutputWriteRefused e])
    ++ (match (s.lane i).headWrite with
        | some (q, k, _, _) => (q.kind.refusal k i).toList
        | none => [])

/-- R144, R145, R151, R167: s with lane i halted on HOST_ACCESS in the context l and its notice n handed over, while nothing
gets through to the link, which has refused the writes ws and the rest state HALTED when it differs. -/
def State.haltedOffLink (s : State) (i : LaneId) (l : Lane) (n : Notice) (ws : List LinkWrite) : State :=
  let halted : Lane := { l with state := .halted, haltReason := .hostAccess, io := .idle }
  let put : State :=
    { s with wire := s.wire ++ ws
        ++ (if l.restLast = .halted then [] else [.torn (restStateAddr s.dirBase i) (restStateBytes .halted)]) }
  if s.pend.getLsbD i.val then put.setLane i { halted with deferred := some n }
  else (put.noticePosted i { notice := n, own := true, setsBit := true } []).setLane i halted

end Sys2Proof.Machine
end

