-- ==== Sys2Proof/Certificates/Slice0/Obligations.lean ====
section
/-! DEFINITION. The statements for the provers. Each is a proposition about the model; OBLIGATIONS.json says which rule or
section of the manual each one formalises. -/

open Sys2Proof Sys2Proof.Machine

/-! ## The step and the reset state -/

/-- A step with a command at the front of the queue is that command on the queue's rest; with an empty queue the part
idles (log 3). -/
def Obligations.StepRunsFront : Prop :=
  ∀ s : State,
    (∀ (c : Instr) (rest : List Instr), step { s with pending := c :: rest } = exec c { s with pending := rest })
      ∧ (s.pending = [] → step s = .next s)

/-- Every command of the part completes: it answers a next state, with the queue's rest untouched, configuration space
touched by a function-level reset or power-on only, NOTICE_MASK by its own write or a reset only, and DIR_BASE by its own
write or a reset only; bits 9:0 of DIR_BASE stay 0 through every command. Where the manual leaves it open, the model's
choice: log 5. -/
def Obligations.EveryCommandCompletes : Prop :=
  ∀ (c : Instr) (s : State), ∃ t, exec c s = .next t
    ∧ t.pending = s.pending
    ∧ t.bus = (if c = .functionLevelReset ∨ c = .powerOn then BusConfig.reset else s.bus)
    ∧ ((∀ v, c ≠ .noticeMaskWrite v) → t.mask = if isReset c then 0 else s.mask)
    ∧ ((∀ half v, c ≠ .dirBaseWrite half v) → t.dirBase = if isReset c then 0 else s.dirBase)
    ∧ (s.dirBase.extractLsb' 0 10 = 0 → t.dirBase.extractLsb' 0 10 = 0)

/-- After power-on: every lane as R171 lists it, both pools full, no engine owned, both pointers 15, the Command Port and
the Notice Unit clear, every register reading 0. Where the manual leaves it open, the model's choice: log 27, 30. -/
def Obligations.ResetState : Prop :=
  (∀ i : LaneId, State.reset.lane i =
      { state := .idle, kind := .none
        par := { ns := 0, ds := 0, rOut := 0, offset := 0, grid := 0, segDur := 0, startPt := 0, cps10 := 0, dMin := 0
                 quota := 0, forcedOnly := false, chans := 0, duckMask := 0, policy := Vector.replicate 14 .count }
        next := none, cur := none, contPending := false, haltReason := .none, restLast := .idle, store := []
        lastStart := 0, nextSeg := 0, intake := [], overrun := false, table := [], mixPos := 0, base := 0
        counters := Vector.replicate 14 0, segTotal := 0, frmTotal := 0, io := .idle, waitAct := .fetch
        gate := { deadline := 0, poll := .none, stale := false }
        pf := { queue := [], paused := false, cursor := 0, outstanding := .none, stopped := false }
        deferred := none, slot := none })
    ∧ State.reset.cueFree = 4096 ∧ State.reset.clipFree = 512
    ∧ State.reset.timing = { owner := none, ptr := 15, unit := .none, buffer := [] }
    ∧ (∀ e : MixId, State.reset.mixEng e = { owner := none, view := [], acc := [], phase := .idle })
    ∧ State.reset.mixPtr = 15
    ∧ State.reset.port = { lastLane := 0, lastAction := 0, lastResult := .none, job := none }
    ∧ State.reset.pend = 0 ∧ State.reset.mask = 0 ∧ State.reset.dirBase = 0 ∧ State.reset.dev = .run
    ∧ State.reset.bus.busMaster = false ∧ State.reset.bus.msiEnable = false
    ∧ ∀ offset, State.reset.readReg offset = 0

/-- The state after power-on meets every invariant that the statements below say a command keeps. Where the manual leaves
it open, the model's choice: log 20. -/
def Obligations.ResetIsSound : Prop :=
  State.reset.Shapely ∧ State.reset.PoolsWhole ∧ State.reset.dirBase.extractLsb' 0 10 = 0
    ∧ ∀ i : LaneId, (State.reset.lane i).StoreOrdered ∧ (State.reset.lane i).SlotsApart
        ∧ (State.reset.lane i).TableSound ∧ (State.reset.lane i).pf.Sound ∧ (State.reset.lane i).CountersInRange
        ∧ (State.reset.lane i).NoteBitsInRange

/-! ## What every command keeps -/

/-- A command that names a lane changes no other lane's context. -/
def Obligations.OtherLanesKept : Prop :=
  ∀ (c : Instr) (s t : State) (i j : LaneId), exec c s = .next t → addressee c = some i → j ≠ i → t.lane j = s.lane j

/-- What may be in flight in each lane state, and that no lane holds two engines, is kept by every command. Where the
manual leaves it open, the model's choice: log 10. -/
def Obligations.LaneStatesKept : Prop :=
  ∀ (c : Instr) (s t : State), s.Shapely → exec c s = .next t → t.Shapely

/-- The places held by all lanes and the free places make up each pool: kept by every command. The premise rules out
states in which a teardown runs on a lane that still holds places. -/
def Obligations.PoolsKept : Prop :=
  ∀ (c : Instr) (s t : State), s.Shapely → s.PoolsWhole → exec c s = .next t → t.PoolsWhole

/-- Every command keeps each cue store in start order, within its quota and within the time range, with entries of one
position slot apart from each other and the slot's latest reference on its last entry. Where the manual leaves it open,
the model's choice: log 20. -/
def Obligations.CueStoresKept : Prop :=
  ∀ (c : Instr) (s t : State) (i : LaneId), (s.lane i).StoreOrdered → (s.lane i).SlotsApart → exec c s = .next t →
    (t.lane i).StoreOrdered ∧ (t.lane i).SlotsApart

/-- Every command keeps each clip table in start order, within its quota, with no sample under more than four bodies. -/
def Obligations.ClipTablesKept : Prop :=
  ∀ (c : Instr) (s t : State) (i : LaneId), (s.lane i).TableSound → exec c s = .next t → (t.lane i).TableSound

/-- Every command keeps each programme queue at 3 blocks at most, with its pause flag in step. -/
def Obligations.ProgrammeQueuesKept : Prop :=
  ∀ (c : Instr) (s t : State) (i : LaneId), (s.lane i).pf.Sound → exec c s = .next t → (t.lane i).pf.Sound

/-- Every command keeps the counters and totals at 2^32 − 1 at most. -/
def Obligations.CountersKept : Prop :=
  ∀ (c : Instr) (s t : State) (i : LaneId), (s.lane i).CountersInRange → exec c s = .next t → (t.lane i).CountersInRange

/-- Every command keeps note bits 14 and 15 clear. -/
def Obligations.NoteBitsKept : Prop :=
  ∀ (c : Instr) (s t : State) (i : LaneId), (s.lane i).NoteBitsInRange → exec c s = .next t → (t.lane i).NoteBitsInRange

/-- While HOLD is set and not cleared, no command begins what R169 lists: no read, no gate poll, no block read, no write
sequence of a lane, no engine grant with its pointer, unless a device reset ends them all. -/
def Obligations.HoldBeginsNothing : Prop :=
  ∀ (c : Instr) (s t : State) (i : LaneId), s.hold = true → c ≠ .holdClear → exec c s = .next t →
    (∀ r, (t.lane i).io = .read r true → (s.lane i).io = .read r true)
      ∧ (∀ q, (t.lane i).io = .seq q → q.begun = true → ∃ q', (s.lane i).io = .seq q' ∧ q'.begun = true)
      ∧ ((t.lane i).gate.poll = .outstanding → (s.lane i).gate.poll = .outstanding)
      ∧ (∀ off k, (t.lane i).pf.outstanding = .live off k → (s.lane i).pf.outstanding = .live off k)
      ∧ (t.timing.owner = some i → s.timing.owner = some i)
      ∧ (∀ e : MixId, (t.mixEng e).owner = some i → (s.mixEng e).owner = some i)
      ∧ (isReset c = false → t.timing.ptr = s.timing.ptr ∧ t.mixPtr = s.mixPtr)

/-! ## The Command Port -/

/-- START of an IDLE lane through a port that is not busy: with a directory the lane enters FETCHING with no current
record and halt reason none, and its entry read is issued unless HOLD is set; with DIR_BASE 0 the write is refused
REFUSED_NO_DIRECTORY and has no other effect. -/
def Obligations.StartTaken : Prop :=
  ∀ (i : LaneId) (s : State), s.port.job = none → (s.lane i).state = .idle →
    exec (.start i) s = .next (if s.dirBase = 0 then s.cmdTaken i 1 .refusedNoDirectory
      else s.onLink i ((s.cmdTaken i 1 .accepted).setLane i
        { s.lane i with state := .fetching, cur := none, haltReason := .none, io := .read .entry (!s.hold) }))

/-- CONTINUE: in a running state it sets continue_pending; in STOPPED the lane waits in NOTICE_WAIT for a deferred
notice, or else re-fetches at its next address, at once when its STOP's writes are complete. Where the manual leaves it
open, the model's choice: log 31. -/
def Obligations.ContinueTaken : Prop :=
  ∀ (i : LaneId) (s : State), s.port.job = none →
    ((s.lane i).state.running = true →
        exec (.continueLane i) s = .next
          (s.onLink i ((s.cmdTaken i 2 .accepted).setLane i { s.lane i with contPending := true })))
      ∧ ((s.lane i).state = .stopped →
        exec (.continueLane i) s = .next (s.onLink i ((s.cmdTaken i 2 .accepted).setLane i
          (if (s.lane i).deferred ≠ none then { s.lane i with state := .noticeWait, waitAct := .fetch }
           else if (s.lane i).io = .idle then { s.lane i with state := .fetching, io := .read (.header false) (!s.hold) }
           else { s.lane i with state := .fetching }))))

/-- RESUME of a HALTED lane: its halt reason becomes none; with a deferred notice it waits in NOTICE_WAIT, else it enters
FETCHING and reads its record's header again, or its directory entry when it is halted on its entry read. Where the
manual leaves it open, the model's choice: log 31. -/
def Obligations.ResumeTaken : Prop :=
  ∀ (i : LaneId) (s : State), s.port.job = none → (s.lane i).state = .halted →
    exec (.resume i) s = .next (s.onLink i ((s.cmdTaken i 3 .accepted).setLane i
      (if (s.lane i).deferred ≠ none then
         { s.lane i with haltReason := .none, state := .noticeWait, waitAct := .resume }
       else
         { s.lane i with
           haltReason := .none, state := .fetching
           io := .read (if (s.lane i).cur = none then .entry else .header false) (!s.hold) })))

/-- SKIP of a lane halted on a record c: its halt reason becomes none; with a deferred notice it waits in NOTICE_WAIT; a
record held by its address alone has its header read; any other retires SKIPPED with its own note bits and progress, the
status left out when an owed retirement's status was already accepted. Where the manual leaves it open, the model's
choice: log 31, 37. -/
def Obligations.SkipTaken : Prop :=
  ∀ (i : LaneId) (s : State) (c : Record), s.port.job = none → (s.lane i).state = .halted → (s.lane i).cur = some c →
    exec (.skip i) s = .next (s.onLink i ((s.cmdTaken i 4 .accepted).setLane i
      (if (s.lane i).deferred ≠ none then
         { s.lane i with haltReason := .none, state := .noticeWait, waitAct := .skip }
       else if c.hdr = none then
         { s.lane i with haltReason := .none, state := .fetching, io := .read (.header true) (!s.hold) }
       else
         let r : RecResult := { outcome := .skipped, reason := .none, notes := c.ex.notes, progress := c.ex.progress }
         { (s.lane i).workEnded with
           haltReason := .none, state := .retiring
           io := newSeq s (.retire r) (retireSteps s i c r (!(c.owed.any Owed.accepted))) })))

/-- ABANDON of a running, STOPPED or HALTED lane: ABANDONING at once; only what has been issued stays in flight; the gate
deadline and poll phase clear, an outstanding poll stays; a live block read becomes stale. Where the manual leaves it
open, the model's choice: log 9, 41. -/
def Obligations.AbandonTaken : Prop :=
  ∀ (i : LaneId) (s : State), s.port.job = none →
    ((s.lane i).state.running = true ∨ (s.lane i).state = .stopped ∨ (s.lane i).state = .halted) →
    exec (.abandon i) s = .next ((s.cmdTaken i 5 .accepted).setLane i
      { s.lane i with
        state := .abandoning
        io := if (s.lane i).io.issued then (s.lane i).io else .idle
        gate := { deadline := 0, stale := (s.lane i).gate.stale
                  poll := if (s.lane i).gate.poll = .outstanding then .outstanding else .none }
        pf := { (s.lane i).pf with outstanding := if (s.lane i).pf.outstanding = .none then .none else .stale } })

/-- INSPECT of an IDLE, STOPPED or HALTED lane, or of a running lane while DEV_STAT shows HELD: the busy flag sets, the
snapshot is taken from the context with DIR_BASE as it stands, and nothing else changes. -/
def Obligations.InspectTaken : Prop :=
  ∀ (i : LaneId) (s : State), s.port.job = none →
    ((s.lane i).state = .idle ∨ (s.lane i).state = .stopped ∨ (s.lane i).state = .halted
      ∨ ((s.lane i).state.running = true ∧ s.dev = .held)) →
    let l := s.lane i
    let snap : Snapshot :=
      { lane := i, state := l.state, kind := l.kind, halt := l.haltReason
        recAddr := (l.cur.map Record.addr).getD 0, progress := (l.cur.map (fun c => c.ex.progress)).getD 0
        pos := if l.kind = .subtitle then l.nextSeg else if l.kind = .description then l.mixPos else 0
        counters := l.counters, segTotal := l.segTotal, frmTotal := l.frmTotal
        cues := if l.kind = .subtitle then l.store else [], clips := if l.kind = .description then l.table else [] }
    exec (.inspect i) s = .next (s.onLinkInspect { s with port :=
      { lastLane := i, lastAction := 6, lastResult := .accepted
        job := some { base := s.dirBase, snap := snap, phase := .entryRead } } })

/-- LANE_CMD writes that are refused, in the order of R119: REFUSED_BUSY keeps the last lane and action; a code that is
none of the six is refused REFUSED_ACTION; an action that the table of R120 does not accept is refused REFUSED_STATE. A
refused write has no other effect. -/
def Obligations.ActionsRefused : Prop :=
  ∀ (i : LaneId) (code : BitVec 4) (s : State),
    (s.port.job ≠ none →
        ∀ c ∈ ([.start i, .continueLane i, .resume i, .skip i, .abandon i, .inspect i, .refusedAction i code] : List Instr),
          exec c s = .next { s with port := { s.port with lastResult := .refusedBusy } })
      ∧ (s.port.job = none →
        (code.toNat = 0 ∨ 7 ≤ code.toNat →
            exec (.refusedAction i code) s = .next (s.cmdTaken i code .refusedAction))
          ∧ ((s.lane i).state ≠ .idle → exec (.start i) s = .next (s.cmdTaken i 1 .refusedState))
          ∧ ((s.lane i).state.running = false → (s.lane i).state ≠ .stopped →
              exec (.continueLane i) s = .next (s.cmdTaken i 2 .refusedState))
          ∧ ((s.lane i).state ≠ .halted → exec (.resume i) s = .next (s.cmdTaken i 3 .refusedState))
          ∧ ((s.lane i).state ≠ .halted ∨ (s.lane i).cur = none →
              exec (.skip i) s = .next (s.cmdTaken i 4 .refusedState))
          ∧ ((s.lane i).state = .idle ∨ (s.lane i).state = .abandoning →
              exec (.abandon i) s = .next (s.cmdTaken i 5 .refusedState))
          ∧ ((s.lane i).state = .abandoning ∨ ((s.lane i).state.running = true ∧ s.dev ≠ .held) →
              exec (.inspect i) s = .next (s.cmdTaken i 6 .refusedState)))

/-! ## The register window, HOLD and device reset -/

/-- A write to NOTICE_PEND, bit by bit for bits 0 to 15: a 1 in a set bit clears it, and a deferred notice of that lane
goes to the slot, its place emptied, with the bit to be set at the end of that write. Nothing else changes. -/
def Obligations.NoticePendWritten : Prop :=
  ∀ (v : BitVec 32) (s : State),
    exec (.noticePendWrite v) s = .next (s.onLinkAll
      { s with
        pend := s.pend &&& ~~~(v.setWidth 16)
        lanes := Vector.ofFn (fun i : LaneId =>
          let l := s.lane i
          if v.getLsbD i.val && s.pend.getLsbD i.val then
            match l.deferred, l.slot with
            | some n, none => { l with deferred := none, slot := some { notice := n, own := false, setsBit := true } }
            | _, _ => l
          else l) })

/-- A write to NOTICE_MASK sets bits 15:0; it asks for one MSI when it raises at least one mask bit whose pending bit is
set, put on the link when MSI and bus mastering are enabled. Nothing else changes. Where the manual leaves it open, the
model's choice: log 25. -/
def Obligations.NoticeMaskWritten : Prop :=
  ∀ (v : BitVec 32) (s : State),
    exec (.noticeMaskWrite v) s = .next
      (if ∃ i : LaneId, v.getLsbD i.val = true ∧ s.mask.getLsbD i.val = false ∧ s.pend.getLsbD i.val = true then
         { s with
           mask := v.setWidth 16
           msiAsked := s.msiAsked + 1
           wire := if s.bus.msiEnable && s.bus.busMaster then s.wire ++ [.msi s.bus.msiAddr s.bus.msiData] else s.wire }
       else { s with mask := v.setWidth 16 })

/-- A write to a half of DIR_BASE is taken only while every lane is IDLE; the other half keeps its value and bits 9:0 of
the base are forced to 0. -/
def Obligations.DirBaseWritten : Prop :=
  ∀ (v : BitVec 32) (s : State),
    exec (.dirBaseWrite .lo v) s = .next
        (if ∀ i, (s.lane i).state = .idle then
           { s with dirBase := s.dirBase.extractLsb' 32 32 ++ (v.extractLsb' 10 22 ++ 0#10) }
         else s)
      ∧ exec (.dirBaseWrite .hi v) s = .next
        (if ∀ i, (s.lane i).state = .idle then { s with dirBase := v ++ s.dirBase.extractLsb' 0 32 } else s)

/-- HOLD set shows HOLDING, and setting it again has no effect; HOLDING becomes HELD when no read, poll, write sequence
or block read of any lane and no INSPECT's read of the entry is in flight and no engine is owned; nothing else changes.
HOLD cleared: RUN, and every lane goes on from the state it holds. A waiting read, or the first write of a waiting
sequence, is issued; a gated lane's waiting first poll is issued; the Prefetch Unit issues a read where R82 holds. A halt
whose first step is its notice hands it over: to the slot, or as deferred with the lane HALTED; while a slot write of the
lane is in flight the notice waits for its end. Without HOLD nothing changes. Where the manual leaves it open, the
model's choice: log 8, 9. -/
def Obligations.HoldChanges : Prop :=
  ∀ s : State,
    exec .holdSet s = .next (if s.dev = .run then { s with dev := .holding } else s)
      ∧ exec .holdDrainComplete s = .next
        (if s.dev = .holding
            ∧ (∀ i, (s.lane i).io.issued = false ∧ (s.lane i).gate.poll ≠ .outstanding ∧ (s.lane i).gate.stale = false
                ∧ (s.lane i).pf.outstanding = .none)
            ∧ s.timing.owner = none ∧ (s.mixEng 0).owner = none ∧ (s.mixEng 1).owner = none
            ∧ (∀ j, s.port.job = some j → j.phase ≠ .entryRead) then
           { s with dev := .held }
         else s)
      ∧ (s.dev = .run → exec .holdClear s = .next s)
      ∧ (s.dev ≠ .run → ∃ t, exec .holdClear s = .next (s.onLinkAll t)
        ∧ t.dev = .run ∧ { t with lanes := s.lanes, dev := s.dev } = s
        ∧ ∀ i : LaneId,
            let l := s.lane i
            let woken : Lane :=
              { l with
                gate := { l.gate with
                  poll := if l.gate.poll = .due ∧ l.gate.stale = false then .outstanding else l.gate.poll }
                pf := match l.mixBody with
                  | some b => if l.mayPrefetch b.frames false then l.pf.issue b.frames else l.pf
                  | none => l.pf }
            (l.io = .idle → t.lane i = woken)
              ∧ (∀ r b, l.io = .read r b → t.lane i = { woken with io := .read r true })
              ∧ (∀ q, l.io = .seq q → q.begun = true → t.lane i = woken)
              ∧ (∀ q k a b rest, l.io = .seq q → q.begun = false → q.steps = .write k a b :: rest →
                  t.lane i = { woken with io := .seq { q with begun := true } })
              ∧ (∀ q n rest, l.io = .seq q → q.begun = false → q.steps = .notice n :: rest → l.state = .retiring →
                  q.kind = .entryHalt ∨ q.kind = .rehalt →
                  t.lane i = if l.slot ≠ none then { woken with io := .seq { q with begun := true } }
                    else if s.pend.getLsbD i.val then { woken with deferred := some n, state := .halted, io := .idle }
                    else
                      { woken with
                        slot := some { notice := n, own := true, setsBit := true }
                        io := .seq { q with begun := true } }))

/-- A device reset gives every lane, both pools, the engines, the Command Port and the Notice Unit their values after
reset; configuration space is as it was. The writes in flight may be torn, and no other: the write at the head of a
lane's sequence, a notice slot write, the segment and the output blocks that the engines are writing, an INSPECT's image.
A function-level reset and power-on do the same and return configuration space to its initial state. Where the manual
leaves it open, the model's choice: log 19, 27. -/
def Obligations.ResetsTaken : Prop :=
  ∀ s : State,
    let t : State :=
      { State.reset with
        bus := s.bus, wire := s.wire ++ s.tornAtReset, msiAsked := s.msiAsked, freeCtr := s.freeCtr, pending := s.pending }
    exec .devCtrlReset s = .next t
      ∧ exec .functionLevelReset s = .next { t with bus := State.reset.bus }
      ∧ exec .powerOn s = .next { t with bus := State.reset.bus }
      ∧ ∀ w : LinkWrite, w ∈ s.tornAtReset ↔
        (∃ i q k a b rest, (s.lane i).io = .seq q ∧ q.begun = true ∧ q.steps = .write k a b :: rest ∧ w = .torn a b)
          ∨ (∃ (i : LaneId) (x : SlotWrite), (s.lane i).slot = some x
              ∧ w = .torn (s.dirBase + BitVec.ofNat 64 (64 * i.val) + 0x28) x.notice.bytes)
          ∨ (∃ i c, s.timing.owner = some i ∧ s.timing.unit = .segWrite ∧ (s.lane i).cur = some c
              ∧ w = .torn (BitVec.ofNat 64 (leField c.fields 8 8) + BitVec.ofNat 64 c.ex.areaOff) s.timing.buffer)
          ∨ (∃ (e : MixId) (i : LaneId) (c : Record) (off k : Nat) (samples : List (BitVec 16)) (rest : List QBlock),
              (s.mixEng e).owner = some i ∧ (s.mixEng e).phase = .writing ∧ (s.lane i).cur = some c
                ∧ c.kind = some .mix ∧ (s.lane i).pf.queue = .read off k samples :: rest
                ∧ w = .torn (BitVec.ofNat 64 (leField c.fields 8 8) + BitVec.ofNat 64 (2 * (off * (s.lane i).par.chans)))
                  (mixedBytes (s.mixEng e).acc))
          ∨ ∃ j a b, s.port.job = some j ∧ j.phase = .writing a b ∧ w = .torn a b

/-- Which register writes are ignored, and what the others are. A write that covers fewer than four bytes, names DEV_STAT
or names no register is ignored; any other decodes to the command of its register: a half of DIR_BASE, a lane action by
its code, NOTICE_PEND, NOTICE_MASK, a reset, HOLD set or cleared. A 64-bit write is two, the lower address first, but for
one that passes the end of the BAR. An ignored write, a completion that arrives after its read's limit, and a refused MSI
change nothing. Where the manual leaves it open, the model's choice: log 36. -/
def Obligations.NothingChanges : Prop :=
  (∀ (s : State) (offset : BitVec 12) (n : Nat) (v : BitVec 32) (r : ReadRef),
      exec (.registerWriteIgnored offset n v) s = .next s ∧ exec (.lateCompletion r) s = .next s
        ∧ exec .msiWriteRefused s = .next s)
    ∧ (∀ (offset : BitVec 12) (n : Nat),
      writeIgnored offset n = true ↔ n < 4 ∨ ∀ a ∈ [0x000, 0x004, 0x008, 0x00C, 0x010, 0x014], offset.toNat ≠ a)
    ∧ (∀ (offset : BitVec 12) (n : Nat) (v : BitVec 32), writeIgnored offset n = true →
      decodeWrite32 offset n v = .registerWriteIgnored offset n v
        ∧ (n ≤ 4 → (decodeWrite32 offset n v).wellFormed = true))
    ∧ (∀ v : BitVec 32,
      let i : LaneId := Fin.ofNat 16 v.toNat
      let code := v.toNat / 256 % 16
      decodeWrite32 0x000 4 v = .dirBaseWrite .lo v ∧ decodeWrite32 0x004 4 v = .dirBaseWrite .hi v
        ∧ decodeWrite32 0x008 4 v =
          (if code = 1 then .start i else if code = 2 then .continueLane i else if code = 3 then .resume i
           else if code = 4 then .skip i else if code = 5 then .abandon i else if code = 6 then .inspect i
           else .refusedAction i (BitVec.ofNat 4 code))
        ∧ decodeWrite32 0x00C 4 v = .noticePendWrite v ∧ decodeWrite32 0x010 4 v = .noticeMaskWrite v
        ∧ decodeWrite32 0x014 4 v =
          (if v.getLsbD 1 = true then .devCtrlReset else if v.getLsbD 0 = true then .holdSet else .holdClear))
    ∧ ∀ (offset : BitVec 12) (lo hi : BitVec 32), decodeWrite64 offset (hi ++ lo) =
      if offset.toNat + 4 < 4096 then [decodeWrite32 offset 4 lo, decodeWrite32 (offset + 4) 4 hi]
      else [decodeWrite32 offset 4 lo]

/-! ## The bytes and addresses of the writes, and the register reads -/

/-- Where the part's writes go and what bytes they hold: the lane entry's fields, the status area, the EMIT result fields
with and without a first difference, and the notice slot; the codes of outcomes, reasons, rest states, results, device
states and record kinds; what a read of each register returns, whole, in part, or 64 bits wide. What the part reads:
multi-byte fields are little-endian; the record header, the bodies of OPEN, CUES, EMIT, CLIP and MIX and the cue entry
have their fields at the offsets of chapter 11. Which bytes of host memory each read in flight asks for; an intake read,
which takes every cue of its batch with up to 241 bytes of text, is shown by the 16 bytes of its first cue's fixed part
alone, the rest of it following from the text lengths found. Where the manual leaves it open, the model's choice: log 33,
34, 36, 42. -/
def Obligations.SharedFormats : Prop :=
  (∀ (s : State) (i : LaneId) (a : Addr),
      resumeStep s i a = .write (.resumePoint a) (s.dirBase + BitVec.ofNat 64 (64 * i.val) + 0x18) (leBytes 8 a.toNat))
    ∧ (∀ (s : State) (i : LaneId) (r : RestState),
      restStep s i r = if (s.lane i).restLast = r then [] else
        [.write (.restState r) (s.dirBase + BitVec.ofNat 64 (64 * i.val) + 0x20)
          [BitVec.ofNat 8 r.code, 0, 0, 0, 0, 0, 0, 0]])
    ∧ (∀ (c : Record) (r : RecResult), c.kind ≠ some .emit →
      statusSteps c r = [.write .status (c.addr + 8) (statusBytes r)])
    ∧ (∀ (c : Record) (r : RecResult), c.kind = some .emit →
      statusSteps c r = [.write .results (c.addr + (if c.hasGate then 56 else 40)) (resultBytes c.ex),
        .write .status (c.addr + 8) (statusBytes r)])
    ∧ (∀ r : RecResult, (statusBytes r).length = 8
      ∧ (statusBytes r).take 2 = [BitVec.ofNat 8 r.outcome.code, BitVec.ofNat 8 r.reason.code]
      ∧ leField (statusBytes r) 2 2 = r.notes.toNat ∧ leField (statusBytes r) 4 4 = r.progress % 2 ^ 32)
    ∧ (∀ x : ExecState, (resultBytes x).length = 20 ∧ leField (resultBytes x) 0 4 = x.areaOff % 2 ^ 32
      ∧ leField (resultBytes x) 4 4 = x.diffCount % 2 ^ 32
      ∧ (x.firstDiff = none → leField (resultBytes x) 8 8 = 2 ^ 64 - 1 ∧ leField (resultBytes x) 16 4 = 2 ^ 32 - 1)
      ∧ ∀ k off, x.firstDiff = some (k, off) →
        leField (resultBytes x) 8 8 = k % 2 ^ 64 ∧ leField (resultBytes x) 16 4 = off % 2 ^ 32)
    ∧ (∀ n : Notice, n.bytes.length = 24 ∧ leField n.bytes 0 8 = n.addr.toNat ∧ leField n.bytes 8 3 = n.tag.toNat
      ∧ leField n.bytes 11 1 = n.outcome.code ∧ leField n.bytes 12 1 = n.reason.code ∧ leField n.bytes 13 1 = n.rest.code
      ∧ leField n.bytes 14 2 = n.notes.toNat ∧ leField n.bytes 16 4 = n.progress % 2 ^ 32 ∧ leField n.bytes 20 4 = 0)
    ∧ (∀ (s : State) (i : LaneId), noticeSlotAddr s.dirBase i = s.dirBase + BitVec.ofNat 64 (64 * i.val) + 0x28)
    ∧ (∀ s : State, s.readReg 0x004 ++ s.readReg 0x000 = s.dirBase
      ∧ s.readReg 0x00C = 0#16 ++ s.pend ∧ s.readReg 0x010 = 0#16 ++ s.mask
      ∧ s.readReg 0x014 = (if s.dev = .run then 0 else 1)
      ∧ s.readReg 0x008 = BitVec.ofBool s.port.job.isSome ++ 0#7 ++ BitVec.ofNat 8 s.port.lastResult.code ++ 0#4
          ++ s.port.lastAction ++ 0#4 ++ BitVec.ofNat 4 s.port.lastLane.val
      ∧ (s.readReg 0x018).extractLsb' 0 2 = BitVec.ofNat 2 s.dev.code
      ∧ ((s.readReg 0x018).getLsbD 4 = true ↔ s.timing.owner ≠ none)
      ∧ ((s.readReg 0x018).getLsbD 5 = true ↔ (s.mixEng 0).owner ≠ none)
      ∧ ((s.readReg 0x018).getLsbD 6 = true ↔ (s.mixEng 1).owner ≠ none)
      ∧ ∀ i : LaneId, (s.readReg 0x018).getLsbD (16 + i.val) = true ↔ (s.lane i).state ≠ .idle)
    ∧ (∀ (s : State) (offset : Nat), offset ∉ registerOffsets → s.readReg offset = 0)
    ∧ (∀ (s : State) (k n j : Nat), j + n ≤ 4 → n ≤ 4 →
      (s.readBytes (4 * k + j) n).length = n
        ∧ leNat (s.readBytes (4 * k + j) n) = (s.readReg (4 * k)).toNat / 256 ^ j % 256 ^ n)
    ∧ (∀ (s : State) (k : Nat),
      leNat (s.readBytes (4 * k) 8) = (s.readReg (4 * k)).toNat + 2 ^ 32 * (s.readReg (4 * k + 4)).toNat)
    ∧ ([RecOutcome.done, .noted, .partialDone, .failed, .halted, .skipped, .abandoned, .stopped].map RecOutcome.code =
        [1, 2, 3, 4, 5, 6, 7, 8]
      ∧ [Reason.none, .storeFull, .areaFull, .badRecord, .badParam, .laneOpen, .laneClosed, .wrongKind, .hostAccess,
          .gateTimeout, .noteHalt].map Reason.code = [0, 1, 2, 3, 4, 5, 6, 7, 8, 9, 10]
      ∧ [RestState.idle, .running, .stopped, .halted].map RestState.code = [0, 1, 2, 3]
      ∧ [CmdResult.none, .accepted, .refusedState, .refusedBusy, .refusedAction, .refusedNoDirectory, .inspectDone,
          .inspectFailed].map CmdResult.code = [0, 1, 2, 3, 4, 5, 6, 7]
      ∧ [DevState.run, .holding, .held].map DevState.code = [0, 1, 2]
      ∧ (List.range 12).map RecKind.ofCode =
        [none, some .openRec, some .closeRec, some .cues, some .cue, some .emit, some .clip, some .mix, some .mark,
         some .link, some .stop, none])
    ∧ (∀ code : Nat, RecKind.ofCode code = none ↔ code = 0 ∨ 11 ≤ code)
    ∧ (∀ (b : List Byte) (off n : Nat), leField b off n < 256 ^ n
      ∧ ∀ j, j < n → leField b off n / 256 ^ j % 256 = (byteAt b (off + j)).toNat)
    ∧ (∀ h : BitVec 128,
      (Header.ofBits h).kind = RecKind.ofCode (h.toNat % 256) ∧ (Header.ofBits h).notify = h.getLsbD 8
        ∧ (Header.ofBits h).gated = h.getLsbD 9 ∧ (Header.ofBits h).len = h.toNat / 2 ^ 16 % 2 ^ 16
        ∧ (Header.ofBits h).tag.toNat = h.toNat / 2 ^ 32 % 2 ^ 24)
    ∧ (∀ b : List Byte, OpenBody.ofBytes b =
      { kind := leField b 0 1, forcedOnly := (byteAt b 1).getLsbD 0, chans := leField b 2 1, duckMask := byteAt b 3
        ds := leField b 4 2, cps10 := leField b 6 2, ns := leField b 8 4, rOut := leField b 12 4
        offset := if leField b 16 8 < 2 ^ 63 then (leField b 16 8 : Int) else (leField b 16 8 : Int) - 2 ^ 64
        grid := leField b 24 4, segDur := leField b 28 4, startPt := leField b 32 4, dMin := leField b 36 4
        policy := leField b 40 4, quota := leField b 44 2 })
    ∧ (∀ b : List Byte, CuesBody.ofBytes b =
      { addr := BitVec.ofNat 64 (leField b 0 8), byteLen := leField b 8 4, count := leField b 12 2 })
    ∧ (∀ b : List Byte, EmitBody.ofBytes b =
      { through := leField b 0 8, area := BitVec.ofNat 64 (leField b 8 8), cap := leField b 16 4
        all := (byteAt b 20).getLsbD 0, compare := (byteAt b 20).getLsbD 1 })
    ∧ (∀ b : List Byte, ClipBody.ofBytes b =
      { pcm := BitVec.ofNat 64 (leField b 0 8), time := leField b 8 6, mask := byteAt b 14, len := leField b 16 3
        gain := leField b 20 2, duck := leField b 22 2, attack := leField b 24 2, release := leField b 26 2 })
    ∧ (∀ b : List Byte, MixBody.ofBytes b =
      { prog := BitVec.ofNat 64 (leField b 0 8), out := BitVec.ofNat 64 (leField b 8 8), frames := leField b 16 3 })
    ∧ (∀ c : RawCue, cueSrcStart c = c.fixed.toNat % 2 ^ 48 ∧ cueSrcEnd c = c.fixed.toNat / 2 ^ 48 % 2 ^ 48
      ∧ (cueSlot c).toNat = c.fixed.toNat / 2 ^ 96 % 8 ∧ cueForced c = c.fixed.getLsbD 103
      ∧ (cueStyle c).toNat = c.fixed.toNat / 2 ^ 104 % 16 ∧ cueTextLen c = c.fixed.toNat / 2 ^ 112)
    ∧ (∀ b : List Byte,
      (inlineCue b).fixed.toNat = leField b 0 16 ∧ (inlineCue b).text = (b.drop 16).take (leField b 14 2))
    ∧ ∀ (s : State) (i : LaneId) (a : Addr) (n : Nat),
      let l := s.lane i
      let at_ : Addr := match l.cur with
        | some c => c.addr
        | none => l.next.getD 0
      ((.lane .entry i, a, n) ∈ s.readsInFlight ↔
          l.io = .read .entry true ∧ a = s.dirBase + BitVec.ofNat 64 (64 * i.val) ∧ n = 8)
        ∧ ((.lane .record i, a, n) ∈ s.readsInFlight ↔
          (∃ skip, l.io = .read (.header skip) true ∧ a = at_ ∧ n = 16)
            ∨ ∃ h, l.io = .read (.body h) true ∧ a = at_ + 16 ∧ n = h.len - 16)
        ∧ ((.lane .poll i, a, n) ∈ s.readsInFlight ↔
          l.gate.poll = .outstanding ∧ ∃ c, l.cur = some c ∧ a = BitVec.ofNat 64 (leField c.body 0 8) ∧ n = 4)
        ∧ ((.lane .intake i, a, n) ∈ s.readsInFlight ↔
          l.io = .read .intake true ∧ ∃ c, l.cur = some c
            ∧ a = BitVec.ofNat 64 (leField c.fields 0 8) + BitVec.ofNat 64 c.ex.cursor ∧ n = 16)
        ∧ ((.lane .compare i, a, n) ∈ s.readsInFlight ↔
          s.timing.owner = some i ∧ s.timing.unit = .compare ∧ ∃ c, l.cur = some c
            ∧ a = BitVec.ofNat 64 (leField c.fields 8 8) + BitVec.ofNat 64 c.ex.areaOff ∧ n = s.timing.buffer.length)
        ∧ ((.lane .block i, a, n) ∈ s.readsInFlight ↔
          ∃ off k c, l.pf.outstanding = .live off k ∧ l.cur = some c ∧ c.kind = some .mix
            ∧ a = BitVec.ofNat 64 (leField c.fields 0 8) + BitVec.ofNat 64 (2 * (off * l.par.chans))
            ∧ n = 2 * (k * l.par.chans))
        ∧ ((.lane .clipSamples i, a, n) ∈ s.readsInFlight ↔
          ∃ (e : MixId) (off k : Nat) (samples : List (BitVec 16)) (rest : List QBlock) (x : ClipEntry),
            (s.mixEng e).owner = some i ∧ (s.mixEng e).phase = .reading ∧ l.pf.queue = .read off k samples :: rest
              ∧ x ∈ neededClips (s.mixEng e).view l.par.chans (l.base + off) k
              ∧ a = x.pcm + BitVec.ofNat 64 (2 * runFirst x (l.base + off)) ∧ n = 2 * runCount x (l.base + off) k)
        ∧ ((.inspectEntry, a, n) ∈ s.readsInFlight ↔
          ∃ j, s.port.job = some j ∧ j.phase = .entryRead
            ∧ a = j.base + BitVec.ofNat 64 (64 * j.snap.lane.val) + 8 ∧ n = 12)

/-! ## Retirements, halts and the hand-off of notices -/

/-- The current record c of lane i retires: RETIRING, under HOLD too with its first write waiting, with queue, intake
buffer and gate given up, a halt reason set by FAILED and HALTED only, and the writes in order: status, resume point
(past the record when the outcome is final, else at it), rest state when it differs, and a notice when NOTIFY is set, a
note bit belongs to a kind with policy NOTICE, or the outcome is FAILED or HALTED. Where the manual leaves it open, the
model's choice: log 8, 39. -/
def Obligations.RetirementBegins : Prop :=
  ∀ (s : State) (i : LaneId) (c : Record) (o : RecOutcome) (why : Reason), (s.lane i).cur = some c →
    s.retire i o why = s.setLane i (Lane.retiring s i (s.lane i) c o why)
      ∧ (let r : RecResult := { outcome := o, reason := why, notes := c.ex.notes, progress := c.ex.progress }
         let rest : RestState := if o = .failed ∨ o = .halted then .halted else .running
         retireSteps s i c r true = statusSteps c r
            ++ [resumeStep s i (if o = .failed ∨ o = .halted then c.addr else c.addr + BitVec.ofNat 64 c.len)]
            ++ restStep s i rest
            ++ (if c.notify = true ∨ o = .failed ∨ o = .halted
                  ∨ ∃ k : Fin 14, c.ex.notes.getLsbD k.val = true ∧ (s.lane i).par.policy.get k = .notice then
                  [.notice { addr := c.addr, tag := c.tag, outcome := o, reason := why, notes := c.ex.notes
                             progress := c.ex.progress, rest := rest }]
                else []))

/-- How write sequences go on, and how a record fails. A sequence that has begun goes on with the step at its head: a
write is in flight; a notice is handed over, to the slot, or as deferred when the pending bit is set, or it waits while a
slot write is in flight; with no step left its event ends. A sequence that has not begun waits. A sequence starts in the
state given and goes on from there. A record without an owed retirement retires FAILED; one with an owed retirement halts
again and keeps it. Where the manual leaves it open, the model's choice: log 8, 10, 22. -/
def Obligations.SequencesRun : Prop :=
  ∀ (s : State) (i : LaneId),
    ((∀ q, (s.lane i).io = .seq q → q.begun = false ∨ ∃ k a b rest, q.steps = .write k a b :: rest) → s.runSeq i = s)
      ∧ (∀ q n rest, (s.lane i).io = .seq q → q.begun = true → q.steps = .notice n :: rest →
        s.runSeq i = s.setLane i ((s.lane i).noticeHanded q n (s.pend.getLsbD i.val) s.hold))
      ∧ (∀ q, (s.lane i).io = .seq q → q.begun = true → q.steps = [] → q.kind ≠ .teardown →
        s.runSeq i = s.setLane i ((s.lane i).eventEnded q false s.hold))
      ∧ (∀ st kind steps begun,
        s.startSeq i st kind steps begun = (s.setLane i
          { s.lane i with
            state := st, io := .seq { kind := kind, steps := steps, begun := begun, failed := false } }).runSeq i)
      ∧ (∀ c why, (s.lane i).cur = some c → c.owed = none → s.failRecord i why = s.retire i .failed why)
      ∧ (∀ c o why, (s.lane i).cur = some c → c.owed = some o →
        s.failRecord i why = (s.setLane i { (s.lane i).workEnded with haltReason := why }).startSeq i .retiring .rehalt
          (restStep s i .halted
            ++ [.notice { addr := c.addr, tag := c.tag, outcome := .failed, reason := why, notes := o.res.notes
                          progress := o.res.progress, rest := .halted }]) (!s.hold))

/-! ## Entry reads and record fetches -/

/-- The entry read of a lane ends. A start address that is 8-aligned and not 0 becomes the next address, and the header
of the first record is read; any other, or a failed read, halts the lane on its entry read with no record and no next
address: the rest state HALTED when it differs, then a FAILED notice with the start address as read, or 0. Where the
manual leaves it open, the model's choice: log 8, 39. -/
def Obligations.EntryReadEnds : Prop :=
  ∀ (i : LaneId) (start : Addr) (s : State), (s.lane i).io = .read .entry true → (s.lane i).state ≠ .abandoning →
    let halt (why : Reason) (a : Addr) : State :=
      (s.setLane i { s.lane i with haltReason := why, next := none, cur := none }).startSeq i .retiring .entryHalt
        (restStep s i .halted
          ++ [.notice { addr := a, tag := 0, outcome := .failed, reason := why, notes := 0, progress := 0
                        rest := .halted }]) (!s.hold)
    (exec (.entryReadComplete i start) s = .next
        (s.onLink i (if start ≠ 0 ∧ start.toNat % 8 = 0 then
           s.setLane i { s.lane i with next := some start, state := .fetching, io := .read (.header false) (!s.hold) }
         else halt .badRecord start)))
      ∧ exec (.entryReadFail i) s = .next (s.onLink i (halt .hostAccess 0))

/-- A header read ends and its header fails. On a first fetch, or on a re-read with no owed retirement left by the
comparison of kinds: a header that fails R97 retires its record FAILED BAD_RECORD, one that fails R98 FAILED with R98's
reason, with execution state 0; no second read is issued. The conditions of R97 and the table of R98 stand in full. Where
the manual leaves it open, the model's choice: log 14, 38. -/
def Obligations.HeaderRefused : Prop :=
  ∀ (i : LaneId) (bits : BitVec 128) (s : State),
    (s.lane i).io = .read (.header false) true → (s.lane i).state ≠ .abandoning → let h := Header.ofBits bits
    let held := (s.lane i).cur.map (fun c => c.compared h)
    let a : Addr := (s.lane i).fetchAddr
    let failed (why : Reason) (hd : Header) : State :=
      (s.setLane i
        { s.lane i with
          cur := some { addr := a, hdr := some hd, body := [], ex := ExecState.zero, owed := none } }).retire i .failed why
    (h.bad a = true ↔ h.kind = none ∨ h.len < 16 ∨ 512 < h.len ∨ h.len % 8 ≠ 0
        ∨ h.len < 16 + (if h.gated = true ∧ h.kind ≠ some .link ∧ h.kind ≠ some .stop then 16 else 0)
            + (match h.kind with
               | some .openRec => 48 | some .emit => 48 | some .clip => 32 | some .mix => 24 | some .cues => 16
               | some .link => 8 | _ => 0)
        ∨ 2 ^ 64 - 1 < a.toNat + h.len)
      ∧ (held.bind Record.owed = none → h.bad a = true →
          exec (.recordHeaderReadComplete i bits) s = .next (s.onLink i (failed .badRecord { h with kind := none })))
      ∧ (held.bind Record.owed = none → h.bad a = false → ∀ k why, h.kind = some k →
          ((k = .openRec ∧ (s.lane i).kind ≠ .none ∧ why = .laneOpen)
            ∨ ((k = .closeRec ∨ k = .cues ∨ k = .cue ∨ k = .emit ∨ k = .clip ∨ k = .mix) ∧ (s.lane i).kind = .none
                ∧ why = .laneClosed)
            ∨ ((k = .cues ∨ k = .cue ∨ k = .emit) ∧ (s.lane i).kind = .description ∧ why = .wrongKind)
            ∨ ((k = .clip ∨ k = .mix) ∧ (s.lane i).kind = .subtitle ∧ why = .wrongKind)) →
          exec (.recordHeaderReadComplete i bits) s = .next (s.onLink i (failed why h)))
      ∧ (∀ c o, held = some c → c.owed = some o → h.bad a = true →
          exec (.recordHeaderReadComplete i bits) s = .next
            (s.onLink i
              ((s.setLane i { s.lane i with cur := some { c with hdr := some h, body := [] } }).failRecord i .badRecord)))

/-- A header read ends and its header passes, or is read for a SKIP. A record of 16 bytes is fetched whole and goes on; a
longer one has its second read issued, the lane staying in FETCHING. The execution state and an owed retirement are kept
when the record held has the kind returned, else they are cleared. The header read of a SKIP gives the length, flags and
tag of the record, which retires SKIPPED. Where the manual leaves it open, the model's choice: log 13, 29, 38. -/
def Obligations.HeaderPassed : Prop :=
  ∀ (i : LaneId) (bits : BitVec 128) (s : State), (s.lane i).state ≠ .abandoning → let h := Header.ofBits bits
    let a : Addr := (s.lane i).fetchAddr
    let clean : Record := { addr := a, hdr := some h, body := [], ex := ExecState.zero, owed := none }
    let held : Option Record := (s.lane i).cur.map (fun c =>
      if c.kind ≠ none ∧ c.kind = h.kind then c else { c with ex := ExecState.zero, owed := none })
    ((s.lane i).io = .read (.header false) true → h.bad a = false →
        (held.bind Record.owed ≠ none ∨ h.kind.bind (kindCheck (s.lane i).kind) = none) →
        exec (.recordHeaderReadComplete i bits) s = .next
          (s.onLink i (if h.len = 16 then
             (s.setLane i
               { s.lane i with
                 cur := some (match held with
                   | some c => { c with hdr := some h, body := [] }
                   | none => clean) }).recordFetched i
           else
             s.setLane i { s.lane i with cur := held, state := .fetching, io := .read (.body h) (!s.hold) })))
      ∧ (∀ c, (s.lane i).io = .read (.header true) true → (s.lane i).cur = some c →
        exec (.recordHeaderReadComplete i bits) s = .next
          (s.onLink i ((s.setLane i
             { s.lane i with cur := some { c with hdr := some { h with kind := none } } }).retireSkipped i
               { c with hdr := some { h with kind := none } })))

/-- A body read ends with the record's length less 16 bytes: the lane holds the record, with the execution state and owed
retirement it kept, and goes on: to its gate when it is gated and no LINK or STOP, else to its execution. At its gate the
lane is GATED with the record's timeout and a first poll issued, or waiting for HOLD or for an ignored poll; a gate word
address that is not 4-aligned fails BAD_PARAM, with the progress the record holds. Where the manual leaves it open, the
model's choice: log 7, 9. -/
def Obligations.RecordFetched : Prop :=
  (∀ (i : LaneId) (h : Header) (bytes : List Byte) (s : State), (s.lane i).io = .read (.body h) true →
      (s.lane i).state ≠ .abandoning → bytes.length = h.len - 16 →
      exec (.recordBodyReadComplete i bytes) s = .next
        (s.onLink i ((s.setLane i
          { s.lane i with
            cur := some (match (s.lane i).cur with
              | some c => { c with hdr := some h, body := bytes }
              | none =>
                { addr := (s.lane i).next.getD 0, hdr := some h, body := bytes, ex := ExecState.zero
                  owed := none }) }).recordFetched i)))
    ∧ ∀ (i : LaneId) (s : State) (c : Record) (h : Header), (s.lane i).cur = some c → c.hdr = some h →
      s.recordFetched i =
        if h.gated = true ∧ h.kind ≠ some .link ∧ h.kind ≠ some .stop then
          if leField c.body 0 8 % 4 = 0 then
            s.setLane i
              { s.lane i with
                state := .gated, io := .idle
                gate := { deadline := leField c.body 12 2, stale := (s.lane i).gate.stale
                          poll := if s.hold = true ∨ (s.lane i).gate.stale = true then .due else .outstanding } }
          else s.failRecord i .badParam
        else s.execute i

/-- A header or body read fails: the record fails with HOST_ACCESS. A header read that fails on a first fetch leaves the
record held by its address alone; a re-read leaves the record as held; a body read leaves it with the header read. Where
the manual leaves it open, the model's choice: log 29. -/
def Obligations.FetchFailed : Prop :=
  ∀ (i : LaneId) (s : State), (s.lane i).state ≠ .abandoning →
    (∀ skip, (s.lane i).io = .read (.header skip) true →
        exec (.recordFetchReadFail i) s = .next
          (s.onLink i (match (s.lane i).cur with
           | some _ => s.failRecord i .hostAccess
           | none =>
             (s.setLane i
               { s.lane i with
                 cur := some { addr := (s.lane i).next.getD 0, hdr := none, body := [], ex := ExecState.zero
                               owed := none } }).failRecord i .hostAccess)))
      ∧ ∀ h, (s.lane i).io = .read (.body h) true →
        exec (.recordFetchReadFail i) s = .next
          (s.onLink i ((s.setLane i
             { s.lane i with
               cur := some (match (s.lane i).cur with
                 | some c => { c with hdr := some h, body := [] }
                 | none =>
                   { addr := (s.lane i).next.getD 0, hdr := some h, body := [], ex := ExecState.zero
                     owed := none }) }).failRecord i .hostAccess))

/-- What an ABANDONING lane had in flight, an entry read, a record read, an intake read or a gate poll, ends with its
data, its word or its failure discarded, and the lane waits for its teardown. Where the manual leaves it open, the
model's choice: log 23, 32. -/
def Obligations.AbandonedReadsEnd : Prop :=
  ∀ (i : LaneId) (s : State), (s.lane i).state = .abandoning →
    let dropped : State := s.setLane i { s.lane i with io := .idle }
    ((s.lane i).io = .read .entry true →
        (∀ a, exec (.entryReadComplete i a) s = .next (s.onLink i dropped))
          ∧ exec (.entryReadFail i) s = .next (s.onLink i dropped))
      ∧ (∀ skip, (s.lane i).io = .read (.header skip) true →
        (∀ b, exec (.recordHeaderReadComplete i b) s = .next (s.onLink i dropped))
          ∧ exec (.recordFetchReadFail i) s = .next (s.onLink i dropped))
      ∧ (∀ h, (s.lane i).io = .read (.body h) true →
        (∀ b, b.length = h.len - 16 → exec (.recordBodyReadComplete i b) s = .next (s.onLink i dropped))
          ∧ exec (.recordFetchReadFail i) s = .next (s.onLink i dropped))
      ∧ ((s.lane i).io = .read .intake true →
        (∀ c cues taken, (s.lane i).cur = some c →
            takeBatch (leField c.fields 8 4) (min 8 (leField c.fields 12 2 - c.ex.progress)) c.ex.cursor cues = some taken →
            exec (.intakeReadComplete i cues) s = .next (s.onLink i dropped))
          ∧ exec (.intakeReadFail i) s = .next (s.onLink i dropped))
      ∧ ((s.lane i).gate.poll = .outstanding →
        let ended : State := s.setLane i { s.lane i with gate := { (s.lane i).gate with poll := .none } }
        (∀ w, exec (.gatePollComplete i w) s = .next (s.onLink i ended)) ∧ exec (.gatePollFail i) s = .next (s.onLink i ended))

/-- A read with no completion within its limit fails as the failed read of its kind does; a stale block read ends. While
bus mastering is disabled every transfer fails as it is asked for, in the step of the command that asks: of what a lane
has in flight one after another fails, as its failing command says, those asked for by the failures among them. So no
write is accepted and no MSI sent: START halts the lane HOST_ACCESS on its entry read, a retirement halts it with its
result owed when final, an INSPECT ends INSPECT_FAILED. With nothing asked for, or with bus mastering enabled, nothing
fails so. Where the manual leaves it open, the model's choice: log 5, 18. -/
def Obligations.ReadTimesOut : Prop :=
  (∀ (i : LaneId) (s : State),
    (∃ t, exec (.readTimeout (.lane .entry i)) s = .next t ∧ exec (.entryReadFail i) s = .next t)
      ∧ (∃ t, exec (.readTimeout (.lane .record i)) s = .next t ∧ exec (.recordFetchReadFail i) s = .next t)
      ∧ (∃ t, exec (.readTimeout (.lane .poll i)) s = .next t ∧ exec (.gatePollFail i) s = .next t)
      ∧ (∃ t, exec (.readTimeout (.lane .intake i)) s = .next t ∧ exec (.intakeReadFail i) s = .next t)
      ∧ (s.timing.owner = some i →
        ∃ t, exec (.readTimeout (.lane .compare i)) s = .next t ∧ exec .compareReadFail s = .next t)
      ∧ (∀ e : MixId, (s.mixEng e).owner = some i → (∀ f : MixId, f ≠ e → (s.mixEng f).owner ≠ some i) →
        ∃ t, exec (.readTimeout (.lane .clipSamples i)) s = .next t ∧ exec (.clipSampleReadFail e) s = .next t)
      ∧ ((s.lane i).pf.outstanding ≠ .stale →
        ∃ t, exec (.readTimeout (.lane .block i)) s = .next t ∧ exec (.blockReadFail i) s = .next t)
      ∧ ((s.lane i).pf.outstanding = .stale →
        ∃ t, exec (.readTimeout (.lane .block i)) s = .next t ∧ exec (.staleReadEnd i) s = .next t)
      ∧ ∃ t, exec (.readTimeout .inspectEntry) s = .next t ∧ exec .inspectEntryReadFail s = .next t)
    ∧ (∀ (s t : State) (i : LaneId), s.bus.busMaster = true →
      s.onLink i t = t ∧ s.onLinkAll t = t ∧ s.onLinkInspect t = t)
    ∧ (∀ (s t : State) (i : LaneId), s.bus.busMaster = false →
      (t.NothingAsked i → s.onLink i t = t)
        ∧ (∃ n, 64 ≤ n ∧ s.onLink i t = t.failUpTo n i)
        ∧ s.onLinkAll t = laneIds.foldl (fun u j => s.onLink j u) t
        ∧ (t.port.job = none → s.onLinkInspect t = t)
        ∧ ∀ j, t.port.job = some j → s.onLinkInspect t =
          { t with
            port := { t.port with lastResult := .inspectFailed, job := none }
            wire := t.wire ++ (match j.phase with
              | .writing a b => [.torn a b]
              | .entryRead => []) })
    ∧ (∀ (t : State) (i : LaneId) (n : Nat),
      (t.failOne i = none ↔ t.NothingAsked i)
        ∧ t.failUpTo 0 i = t
        ∧ (t.failOne i = none → t.failUpTo (n + 1) i = t)
        ∧ ∀ u, t.failOne i = some u →
          t.failUpTo (n + 1) i = u.failUpTo n i
            ∧ ((∀ q k a b, (t.lane i).headWrite = some (q, k, a, b) → q.kind.refusal k i ≠ none) →
              ∃ f, f ∈ failuresOf t i ∧ exec f t = .next (t.onLink i u)))
    ∧ (∀ (c : Instr) (s t : State), s.bus.busMaster = false → (∀ i, s.NothingAsked i) → s.port.job = none →
      exec c s = .next t → ∃ ws, t.wire = s.wire ++ ws ∧ ∀ w ∈ ws, ∃ a b, w = .torn a b)
    ∧ (∀ (i : LaneId) (s : State), s.bus.busMaster = false → s.NothingAsked i → s.port.job = none → s.dev = .run →
      (s.lane i).state = .idle → s.dirBase ≠ 0 →
      exec (.start i) s = .next ((s.cmdTaken i 1 .accepted).haltedOffLink i
        { s.lane i with cur := none, next := none }
        { addr := 0, tag := 0, outcome := .failed, reason := .hostAccess, notes := 0, progress := 0, rest := .halted } []))
    ∧ ∀ (i : LaneId) (s : State) (c : Record) (o : RecOutcome) (why : Reason) (k : WriteKind) (a : Addr) (b : List Byte)
        (more : List SeqStep),
      s.bus.busMaster = false → s.NothingAsked i → s.dev = .run → (s.lane i).cur = some c →
      let r : RecResult := { outcome := o, reason := why, notes := c.ex.notes, progress := c.ex.progress }
      statusSteps c r = .write k a b :: more →
      s.onLink i (s.retire i o why) = s.haltedOffLink i
        { (s.lane i).workEnded with
          cur := some { c with owed := if o = .failed ∨ o = .halted then none else some { res := r, accepted := false } } }
        { addr := c.addr, tag := c.tag, outcome := .failed, reason := .hostAccess, notes := c.ex.notes
          progress := c.ex.progress, rest := .halted } [.torn a b]

/-! ## Gates -/

/-- Gate polls and gate time. A poll that returns the gate value opens the gate: its deadline and phase clear and the
record executes. Another word starts the poll phase; a failed poll fails the record with HOST_ACCESS. The phase's end
issues the next poll, and the timeout fails the record GATE_TIMEOUT once the first poll has been issued, neither of them
under HOLD. A poll that was outstanding at an expiry ends without effect, but that a first poll waiting for it is issued.
Where the manual leaves it open, the model's choice: log 7, 9. -/
def Obligations.GateEvents : Prop :=
  ∀ (i : LaneId) (word : BitVec 32) (s : State) (c : Record), (s.lane i).cur = some c →
    let gate (g : Gate) : State := s.setLane i { s.lane i with gate := g }
    let g := (s.lane i).gate
    ((s.lane i).state ≠ .abandoning → g.poll = .outstanding →
        (exec (.gatePollComplete i word) s = .next
            (s.onLink i (if word.toNat = leField c.body 8 4 then (gate { g with deadline := 0, poll := .none }).execute i
             else gate { g with poll := .phase })))
          ∧ exec (.gatePollFail i) s = .next (s.onLink i ((gate { g with poll := .none }).failRecord i .hostAccess)))
      ∧ (g.poll ≠ .outstanding → g.stale = true →
        let ended : State :=
          gate { g with stale := false, poll := if g.poll = .due ∧ s.hold = false then .outstanding else g.poll }
        exec (.gatePollComplete i word) s = .next (s.onLink i ended) ∧ exec (.gatePollFail i) s = .next (s.onLink i ended))
      ∧ exec (.pollPhaseExpiry i) s = .next
          (if g.poll = .phase ∧ s.hold = false then s.onLink i (gate { g with poll := .outstanding }) else s)
      ∧ exec (.gateTimeout i) s = .next
          (if (s.lane i).state = .gated ∧ g.deadline ≠ 0 ∧ s.hold = false ∧ (g.poll = .outstanding ∨ g.poll = .phase) then
             s.onLink i (s.failRecord i .gateTimeout)
           else s)

/-! ## Records -/

/-- OPEN. It is BAD_PARAM exactly when its kind field is other than 1 and 2, or a check of R2, R22 or R64 fails; refused,
it changes nothing else. Accepted, it sets the kind, the parameters with their clamps, the policy table, and the track
state to its start, and retires DONE with progress 0. Where the manual leaves it open, the model's choice: log 26. -/
def Obligations.OpenExecuted : Prop :=
  ∀ (i : LaneId) (s : State) (c : Record), (s.lane i).cur = some c → c.owed = none → c.kind = some .openRec →
    let b := OpenBody.ofBytes c.fields
    let bad : Prop :=
      (b.kind ≠ 1 ∧ b.kind ≠ 2) ∨ b.ns = 0 ∨ b.ds = 0 ∨ 2 ^ 47 - 1 < b.offset.natAbs ∨ b.quota = 0
        ∨ (b.kind = 1 ∧ (b.rOut = 0 ∨ 16777215 < b.rOut ∨ b.segDur = 0 ∨ 2 ^ 48 - 1 < b.startPt * b.segDur))
        ∨ (b.kind = 2 ∧ ((b.rOut ≠ 32000 ∧ b.rOut ≠ 44100 ∧ b.rOut ≠ 48000) ∨ b.chans = 0 ∨ 8 < b.chans))
    (bad → s.execute i = s.failRecord i .badParam)
      ∧ (¬bad →
        let sub : Bool := decide (b.kind = 1)
        let l : Lane :=
          { s.lane i with
            kind := if sub then .subtitle else .description
            par :=
              { ns := b.ns, ds := b.ds, rOut := b.rOut, offset := b.offset, grid := if sub then b.grid else 0
                segDur := if sub then b.segDur else 0, startPt := if sub then b.startPt else 0
                cps10 := if sub then min b.cps10 1000 else 0, dMin := if sub then b.dMin else 0
                quota := if sub then min b.quota 4096 else min b.quota 512, forcedOnly := sub && b.forcedOnly
                chans := if sub then 0 else b.chans
                duckMask := if sub then 0 else b.duckMask &&& BitVec.ofNat 8 (2 ^ b.chans - 1)
                policy := Vector.ofFn (fun k : Fin 14 =>
                  if b.policy / 4 ^ k.val % 4 = 0 then .count else if b.policy / 4 ^ k.val % 4 = 1 then .notice else .halt) }
            counters := Vector.replicate 14 0, segTotal := 0, frmTotal := 0, store := [], table := [], lastStart := 0
            nextSeg := if sub then b.startPt else 0, mixPos := 0, haltReason := .none
            cur := some { c with ex := ExecState.zero } }
        s.execute i = (((s.setLane i l).freeCues (s.lane i).store.length).freeClips (s.lane i).table.length).retire i .done
          .none)

/-- CLOSE. Every entry of the store and table goes back to its pool with one LEFTOVER each, credited together, the kind
becomes NONE, and the progress is the number freed. It retires DONE or NOTED; under a HALT policy on LEFTOVER it retires
HALTED NOTE_HALT when any was freed, and keeps a retirement NOTED owed, not accepted. Where the manual leaves it open,
the model's choice: log 26. -/
def Obligations.CloseExecuted : Prop :=
  ∀ (i : LaneId) (s : State) (c : Record), (s.lane i).cur = some c → c.owed = none → c.kind = some .closeRec →
    let n := (s.lane i).store.length + (s.lane i).table.length
    let notes : BitVec 16 := if n = 0 then c.ex.notes else c.ex.notes ||| 0x2000#16
    let x : ExecState := { c.ex with progress := n, notes := notes }
    let halts : Prop := 0 < n ∧ (s.lane i).par.policy.get 13 = .halt
    let l (owed : Option Owed) : Lane :=
      { s.lane i with
        kind := .none, store := [], table := [], lastStart := 0
        counters := (s.lane i).counters.set 13 (min ((s.lane i).counters.get 13 + n) 4294967295)
        cur := some { c with ex := x, owed := owed } }
    let t (owed : Option Owed) : State :=
      ((s.setLane i (l owed)).freeCues (s.lane i).store.length).freeClips (s.lane i).table.length
    (¬halts → (s.lane i).counters.get 13 ≤ 4294967295 →
        s.execute i = (t none).retire i (if notes = 0 then .done else .noted) .none)
      ∧ (halts → (s.lane i).counters.get 13 ≤ 4294967295 →
        s.execute i = (t (some { res := { outcome := .noted, reason := .none, notes := notes, progress := n }
                                 accepted := false })).retire i .halted .noteHalt)

/-- MARK retires DONE with progress 0 and note bits 0. A LINK whose target is 0 or not 8-aligned fails BAD_RECORD; any
other is passed: the target is written as the resume point, its only write. A STOP with continue_pending set clears it
and is fetched again with no write; else the lane is STOPPED, with the resume point at the STOP, the rest state when it
differs and a STOPPED notice when NOTIFY is set. Where the manual leaves it open, the model's choice: log 6, 8. -/
def Obligations.MarkLinkStopExecuted : Prop :=
  ∀ (i : LaneId) (s : State) (c : Record), (s.lane i).cur = some c → c.owed = none →
    let target : Addr := BitVec.ofNat 64 (leField c.fields 0 8)
    (c.kind = some .mark →
        s.execute i = (s.setLane i { s.lane i with cur := some { c with ex := ExecState.zero } }).retire i .done .none)
      ∧ (c.kind = some .link →
        s.execute i =
          if target = 0 ∨ target.toNat % 8 ≠ 0 then s.failRecord i .badRecord
          else s.setLane i { s.lane i with state := .fetching, io := newSeq s .linkPass [resumeStep s i target] })
      ∧ (c.kind = some .stop → (s.lane i).contPending = true →
        s.execute i = s.setLane i
          { s.lane i with
            cur := none, next := some c.addr, contPending := false, state := .fetching
            io := .read (.header false) (!s.hold) })
      ∧ (c.kind = some .stop → (s.lane i).contPending = false →
        s.execute i = s.setLane i
          { s.lane i with
            cur := none, next := some c.addr, state := .stopped
            io := newSeq s .stop ([resumeStep s i c.addr] ++ restStep s i .stopped
              ++ (if c.notify then
                    [.notice { addr := c.addr, tag := c.tag, outcome := .stopped, reason := .none, notes := 0
                               progress := 0, rest := .stopped }]
                  else [])) })

/-- How the records with units begin. CUES: BAD_PARAM for a count of 0 or a block not 8-aligned; done at once when no cue
is left, BAD_PARAM when the fixed part of the next one would pass the byte length, under HOLD too; else an intake read
with the buffer emptied. CUE and CLIP: done at once with progress 1; BAD_PARAM when the inline cue does not fit, the PCM
address is odd or the length 0; else QUEUED. EMIT: BAD_PARAM for a bad area or an extent beyond the time range; done at
once when there is no segment to emit; else QUEUED with its through-index. MIX: BAD_PARAM by R79; done at once with no
frame left; else WAIT_DATA with prefetch from its progress. A record with an owed retirement writes it. Where the manual
leaves it open, the model's choice: log 8, 30, 40. -/
def Obligations.UnitRecordsBegin : Prop :=
  ∀ (i : LaneId) (s : State) (c : Record), (s.lane i).cur = some c →
    let b := c.fields
    (∀ o, c.owed = some o → s.execute i = s.setLane i
        { (s.lane i).workEnded with
          state := .retiring, io := newSeq s (.retire o.res) (retireSteps s i c o.res (!o.accepted)) })
      ∧ (c.owed = none → c.kind = some .cues →
        s.execute i =
          if leField b 12 2 = 0 ∨ leField b 0 8 % 8 ≠ 0 then s.failRecord i .badParam
          else if leField b 12 2 ≤ c.ex.progress then s.retireDone i
          else if leField b 8 4 < c.ex.cursor + 16 then s.failRecord i .badParam
          else s.setLane i
            { s.lane i with state := .waitData, intake := [], overrun := false, io := .read .intake (!s.hold) })
      ∧ (c.owed = none → c.kind = some .cue →
        s.execute i =
          if c.ex.progress = 1 then s.retireDone i
          else if 16 ≤ b.length ∧ 16 + leField b 14 2 ≤ b.length then
            s.setLane i { s.lane i with state := .queued, io := .idle }
          else s.failRecord i .badParam)
      ∧ (c.owed = none → c.kind = some .clip →
        s.execute i =
          if c.ex.progress = 1 then s.retireDone i
          else if leField b 0 8 % 2 ≠ 0 ∨ leField b 16 3 = 0 then s.failRecord i .badParam
          else s.setLane i { s.lane i with state := .queued, io := .idle })
      ∧ (c.owed = none → c.kind = some .emit →
        let cap := leField b 16 4
        let all := (byteAt b 20).getLsbD 0
        let k := if all then (((s.lane i).store.map CueEntry.stop).foldl max 0 - 1) / (s.lane i).par.segDur
          else leField b 0 8
        let t : State :=
          s.setLane i { s.lane i with cur := some { c with ex := { c.ex with through := k } } }
        s.execute i =
          if leField b 8 8 % 8 ≠ 0 ∨ cap < 8 ∨ 4294967288 < cap ∨ cap % 8 ≠ 0 then s.failRecord i .badParam
          else if all = true ∧ (s.lane i).store = [] then s.retireDone i
          else if k < (s.lane i).nextSeg then t.retireDone i
          else if maxTime < k * (s.lane i).par.segDur then t.failRecord i .badParam
          else t.setLane i { t.lane i with state := .queued, io := .idle })
      ∧ (c.owed = none → c.kind = some .mix →
        let p := c.ex.progress
        let f := leField b 16 3
        let t : State :=
          s.setLane i
            { s.lane i with
              state := .waitData, io := .idle, base := (s.lane i).mixPos - p, pf := { (s.lane i).pf with cursor := p } }
        s.execute i =
          if leField b 0 8 % 2 ≠ 0 ∨ leField b 8 8 % 2 ≠ 0 ∨ f = 0 ∨ maxTime + p < (s.lane i).mixPos + f then
            s.failRecord i .badParam
          else if f ≤ p then s.retireDone i
          else t.prefetch i)

/-! ## The Timing Engine -/

/-- An intake read ends with the cues it asked for: the next min(8, count − progress) cues from the cursor, each with the
first 241 bytes of its text, or fewer when a cue's fixed part or text would extend past the byte length: the batch ends
before that cue, of which a text overrun leaves the fixed part to judge by. A batch whose first cue overruns the block
fails BAD_PARAM; any other leaves the lane QUEUED with the batch and the mark that an overrunning cue ended it. A failed
read fails HOST_ACCESS. Where the manual leaves it open, the model's choice: log 18, 23, 32. -/
def Obligations.IntakeEnds : Prop :=
  (∀ (byteLen m off : Nat) (cues batch : List RawCue) (ended : Bool),
      let at_ (n : Nat) : Nat := off + ((cues.take n).map (fun c => 16 + (cueTextLen c + 7) / 8 * 8)).sum
      let read (n : Nat) : Prop := ∀ (j : Nat) (c : RawCue), j < n → cues[j]? = some c →
        at_ j + 16 + cueTextLen c ≤ byteLen ∧ c.text.length = min (cueTextLen c) 241
      takeBatch byteLen m off cues = some (batch, ended) ↔
        (ended = false ∧ batch = cues ∧ cues.length = m ∧ read m)
          ∨ (ended = true ∧ batch = cues ∧ cues.length < m ∧ read cues.length ∧ byteLen < at_ cues.length + 16)
          ∨ (ended = true ∧ batch.length < m ∧ read batch.length ∧ ∃ c, cues = batch ++ [c]
              ∧ at_ batch.length + 16 ≤ byteLen ∧ byteLen < at_ batch.length + 16 + cueTextLen c))
    ∧ ∀ (i : LaneId) (cues : List RawCue) (s : State) (c : Record), (s.lane i).io = .read .intake true →
      (s.lane i).cur = some c → (s.lane i).state ≠ .abandoning →
      let idle : State := s.setLane i { s.lane i with io := .idle }
      (∀ batch ended, takeBatch (leField c.fields 8 4) (min 8 (leField c.fields 12 2 - c.ex.progress)) c.ex.cursor cues =
            some (batch, ended) →
          exec (.intakeReadComplete i cues) s = .next
            (s.onLink i (if batch = [] then idle.failRecord i .badParam
             else s.setLane i { s.lane i with state := .queued, io := .idle, intake := batch, overrun := ended })))
        ∧ exec (.intakeReadFail i) s = .next (s.onLink i (idle.failRecord i .hostAccess))

/-- The Timing Engine is granted when it is free, HOLD is clear and a lane has a Timing request: to the requesting lane
that comes first after the pointer; that lane is WORKING and becomes owner and pointer. A CUES or CUE unit and a CLIP
unit begin; an EMIT unit builds its segment, and ends AREA_FULL at once, with the engine released, when it does not fit.
Without such a lane, or with the engine taken or HOLD set, nothing changes. -/
def Obligations.TimingEngineGranted : Prop :=
  ∀ s : State,
    let wants (i : LaneId) : Prop := (s.lane i).state = .queued ∧ (s.lane i).cur.bind Record.kind ≠ some .mix
    let after (i : LaneId) : Nat := (i.val + 15 - s.timing.ptr.val) % 16
    (s.timing.owner ≠ none ∨ s.hold = true ∨ (∀ i, ¬wants i) → exec .timingEngineGrant s = .next s)
      ∧ ∀ (i : LaneId) (c : Record), s.timing.owner = none → s.hold = false → wants i →
        (∀ j, wants j → after i ≤ after j) → (s.lane i).cur = some c →
        let t : State := s.setLane i { s.lane i with state := .working }
        let b := EmitBody.ofBytes c.fields
        let img := segmentBytes (s.lane i).par (s.lane i).nextSeg (s.lane i).store
        exec .timingEngineGrant s = .next
          (s.onLink i (if c.kind = some .emit then
             if c.ex.areaOff + img.length ≤ b.cap then
               { t with timing :=
                   { owner := some i, ptr := i, unit := if b.compare then .compare else .segWrite, buffer := img } }
             else
               ({ t with timing := { owner := none, ptr := i, unit := .none, buffer := [] } } : State).retire i
                 .partialDone .areaFull
           else
             { t with timing := { s.timing with
                 owner := some i, ptr := i, unit := if c.kind = some .clip then .clip else .cue } }))

/-- A CUES or CUE unit ends: the engine is released, store, last_start, pool, progress and cursor are the pipeline's over
the batch, and the arisings are credited. Then, in this order: a HALT policy halts the lane NOTE_HALT; a refused slot
ends the record PARTIAL STORE_FULL; an overrunning cue fails it BAD_PARAM; with the count reached it is DONE or NOTED;
BAD_PARAM when no fixed part is left within the byte length; else the next batch is read. An ABANDONING lane takes the
unit's changes and no such step. The batch passes cue by cue until one is refused. A dropped cue is consumed with its
notes. One at quota or with an empty pool is refused, leaving last_start alone changed. Any other takes a slot: the
slot's latest entry, when it ends after the new start, is displaced with TRIMMED when the starts are equal, its place
given back, else cut to end there with TRIMMED, and FAST_READ when what is left is below its required duration; the cue
goes to the store's tail as the slot's latest. Where the manual leaves it open, the model's choice: log 21, 40. -/
def Obligations.CueUnitEnds : Prop :=
  (∀ (s : State) (i : LaneId) (c : Record), s.timing.unit = .cue → s.timing.owner = some i → (s.lane i).cur = some c →
    let l := s.lane i
    let batch := if c.kind = some .cue then [inlineCue c.fields] else l.intake
    let w := passBatch l.par (l.nextSeg * l.par.segDur)
      { store := l.store, lastStart := l.lastStart, free := s.cueFree, notes := [], consumed := 0, cursor := c.ex.cursor
        refused := false } batch
    let x : ExecState := { c.ex with
      progress := c.ex.progress + w.consumed, cursor := w.cursor, notes := markAll c.ex.notes w.notes }
    let u : State :=
      { (s.setLane i { l with
          store := w.store, lastStart := w.lastStart, counters := countAll l.counters w.notes
          cur := some { c with ex := x } }) with
        cueFree := w.free, timing := { s.timing with owner := none, unit := .none, buffer := [] } }
    let count := if c.kind = some .cue then 1 else leField c.fields 12 2
    exec .cueUnitEnd s = .next
      (s.onLink i (if l.state = .abandoning then u
       else if ∃ k ∈ w.notes, l.par.policyOf k = .halt then u.retire i .halted .noteHalt
       else if w.refused then u.retire i .partialDone .storeFull
       else if l.overrun then u.retire i .failed .badParam
       else if count ≤ x.progress then u.retire i (if x.notes = 0 then .done else .noted) .none
       else if leField c.fields 8 4 < x.cursor + 16 then u.failRecord i .badParam
       else u.setLane i
         { u.lane i with state := .waitData, intake := [], overrun := false, io := .read .intake (!s.hold) })))
    ∧ (∀ (p : Params) (h : Nat) (w : CueWork), passBatch p h w [] = w
      ∧ ∀ c cs, passBatch p h w (c :: cs) =
        if (passCue p h w c).refused then passCue p h w c else passBatch p h (passCue p h w c) cs)
    ∧ ∀ (p : Params) (h : Nat) (w : CueWork) (c : RawCue),
      let r := prepareCue p h w.lastStart c
      let slot : BitVec 3 := c.fixed.extractLsb' 96 3
      let cursor := w.cursor + 16 + (cueTextLen c + 7) / 8 * 8
      (r.1 = .drop → passCue p h w c =
          { w with lastStart := r.2.2, notes := w.notes ++ r.2.1, consumed := w.consumed + 1, cursor := cursor })
        ∧ ∀ start stop text, r.1 = .pass start stop text →
          let inserted (store : List CueEntry) (notes : List NoteKind) (freed : Nat) : CueWork :=
            { w with
              store := store.map (fun e => if e.slot = slot then { e with latest := false } else e)
                ++ [{ start := start, stop := stop, slot := slot, style := c.fixed.extractLsb' 104 4
                      forced := c.fixed.getLsbD 103, text := text, chars := charCount text, continued := false
                      latest := true }]
              lastStart := r.2.2, free := w.free - 1 + freed, notes := w.notes ++ r.2.1 ++ notes
              consumed := w.consumed + 1, cursor := cursor }
          (p.quota ≤ w.store.length ∨ w.free = 0 →
              passCue p h w c = { w with lastStart := r.2.2, refused := true })
            ∧ (w.store.length < p.quota → 0 < w.free →
              ((∀ e ∈ w.store, e.slot = slot → e.latest = true → e.stop ≤ start) →
                  passCue p h w c = inserted w.store [] 0)
                ∧ ∀ xs e ys, w.store = xs ++ e :: ys → (∀ x ∈ xs, x.slot = slot → x.latest = false) → e.slot = slot →
                  e.latest = true → start < e.stop →
                  (e.start = start → passCue p h w c = inserted (xs ++ ys) [.trimmed] 1)
                    ∧ (e.start ≠ start → passCue p h w c = inserted (xs ++ { e with stop := start } :: ys)
                        (.trimmed :: if start - e.start < requiredTicks p e.chars then [.fastRead] else []) 0))

/-- A CLIP unit ends and the engine is released. A clip that lies before the mix position, or whose body overlaps four or
more bodies of the table, at whatever samples, is consumed and dropped with its LATE or CROWDED; one that the quota or
pool cannot hold ends the record PARTIAL STORE_FULL with no arising credited; any other is inserted in start order, after
those of equal start, from the pool. A consumed clip has progress 1 and its arisings credited; a HALT policy halts the
lane, else the record is DONE or NOTED. How arisings are credited, here and in every unit: the fourteen kinds have the
indices 0 to 13; the counter of a kind's index rises by the number of its arisings and stays at 2^32 − 1; the note bit of
its index is set, and no other. Where the manual leaves it open, the model's choice: log 21. -/
def Obligations.ClipUnitEnds : Prop :=
  (∀ (s : State) (i : LaneId) (c : Record), s.timing.unit = .clip → s.timing.owner = some i → (s.lane i).cur = some c →
    let l := s.lane i
    let b := ClipBody.ofBytes c.fields
    let at_ := placeClip l.par b.time
    let late := at_.1 + b.len ≤ l.mixPos
    let notes := at_.2 ++ (if late ∨ (at_.1 : Int) - b.attack < l.mixPos then [NoteKind.late] else [])
    let crowded := ¬late ∧ 4 ≤ (l.table.filter (fun e => decide (e.start < at_.1 + b.len ∧ at_.1 < e.start + e.len))).length
    let free : State := { s with timing := { s.timing with owner := none, unit := .none, buffer := [] } }
    let consumed (table : List ClipEntry) (ns : List NoteKind) (u : State) : State :=
      let x : ExecState := { c.ex with progress := 1, notes := markAll c.ex.notes ns }
      let v := u.setLane i
        { l with table := table, counters := countAll l.counters ns, cur := some { c with ex := x } }
      if l.state = .abandoning then v
      else if ∃ k ∈ ns, l.par.policyOf k = .halt then v.retire i .halted .noteHalt
      else v.retire i (if x.notes = 0 then .done else .noted) .none
    exec .clipUnitEnd s = .next
      (s.onLink i (if late then consumed l.table notes free
       else if crowded then consumed l.table (notes ++ [.crowded]) free
       else if l.table.length < l.par.quota ∧ 0 < s.clipFree then
         consumed
           (insertClip
             { pcm := b.pcm, len := b.len, start := at_.1, gain := min b.gain 32767, duck := min b.duck 16384
               attack := b.attack, release := b.release, mask := b.mask } l.table)
           notes { free with clipFree := s.clipFree - 1 }
       else if l.state = .abandoning then free
       else free.retire i .partialDone .storeFull)))
    ∧ [NoteKind.beforeZero, .outOfOrder, .late, .extended, .trimmed, .fastRead, .textCut, .crowded, .emptyCue, .differs,
        .range, .clipped, .filtered, .leftover].map (fun k => k.idx.val) = [0, 1, 2, 3, 4, 5, 6, 7, 8, 9, 10, 11, 12, 13]
    ∧ (∀ (v : Vector Nat 14) (ns : List NoteKind) (k : NoteKind), v.get k.idx ≤ 4294967295 →
      (countAll v ns).get k.idx = min (v.get k.idx + ns.count k) 4294967295)
    ∧ (∀ (b : BitVec 16) (ns : List NoteKind) (j : Nat),
      (markAll b ns).getLsbD j = true ↔ b.getLsbD j = true ∨ ∃ k ∈ ns, k.idx.val = j)
    ∧ ∀ (e : ClipEntry) (table : List ClipEntry), table.Pairwise (fun x y => x.start ≤ y.start) →
      insertClip e table = table.filter (fun x => decide (x.start ≤ e.start)) ++ e ::
        table.filter (fun x => decide (e.start < x.start))

/-- The segment image. A segment of index k has its 48-byte header and its pieces: of the entries that overlap its
bounds, the first 64 in store order, each laid out in turn with its times cut to the bounds, its flags, slot, style and
padded text; the count of the others is the left-out count. -/
def Obligations.SegmentImage : Prop :=
  ∀ (p : Params) (k : Nat) (store : List CueEntry),
    0 < p.segDur → p.segDur < 2 ^ 32 → p.rOut < 2 ^ 32 → k * p.segDur ≤ maxTime → store.length ≤ 4096 →
    (∀ e ∈ store, e.text.length ≤ 240) →
    let b0 := k * p.segDur
    let b1 := (k + 1) * p.segDur
    let eligible := store.filter (fun e => decide (e.start < b1 ∧ b0 < e.stop))
    let pieces := eligible.take 64
    let size (e : CueEntry) : Nat := 16 + (e.text.length + 7) / 8 * 8
    let img := segmentBytes p k store
    img.length = 48 + (pieces.map size).sum
      ∧ leField img 0 4 = 0x24400001 ∧ leField img 4 4 = img.length ∧ leField img 8 2 = pieces.length
      ∧ leField img 10 2 = eligible.length - pieces.length ∧ leField img 12 4 = p.rOut ∧ leField img 16 8 = k
      ∧ leField img 24 8 = b0 ∧ leField img 32 4 = p.segDur ∧ leField img 36 12 = 0
      ∧ ∀ (j : Nat) (e : CueEntry), pieces[j]? = some e →
        let piece := (img.drop (48 + ((pieces.take j).map size).sum)).take (size e)
        leField piece 0 4 = max e.start b0 - b0 ∧ leField piece 4 4 = min e.stop b1 - b0
          ∧ leField piece 8 1 =
            (if e.start < b0 then 1 else 0) + (if b1 < e.stop then 2 else 0) + (if e.forced then 4 else 0)
          ∧ leField piece 9 1 = e.slot.toNat ∧ leField piece 10 1 = e.style.toNat ∧ leField piece 11 1 = 0
          ∧ leField piece 12 2 = e.text.length ∧ leField piece 14 2 = 0
          ∧ piece.drop 16 = e.text ++ List.replicate (size e - 16 - e.text.length) 0

/-- The segment of an EMIT unit is complete: its writes are accepted, or its compare read has returned as many bytes. The
engine is released; next_segment, progress and area offset advance; the entries that gave its pieces, the first 64
eligible ones, are marked continued; entries ending at or before the segment's end are freed to the pool; the total
rises; CROWDED for each entry left out and DIFFERS for a difference are credited, the first difference kept. Then a HALT
policy halts the lane; past the through-index the record is DONE or NOTED; else the lane is QUEUED again. Where the
manual leaves it open, the model's choice: log 18, 33. -/
def Obligations.SegmentCompleted : Prop :=
  ∀ (s : State) (i : LaneId) (c : Record) (bytes : List Byte), s.timing.owner = some i → (s.lane i).cur = some c →
    let l := s.lane i
    let buf := s.timing.buffer
    let b0 := l.nextSeg * l.par.segDur
    let b1 := (l.nextSeg + 1) * l.par.segDur
    let beyond := (l.store.filter (fun e => decide (e.start < b1 ∧ b0 < e.stop))).length - 64
    let eligible (e : CueEntry) : Bool := decide (e.start < b1 ∧ b0 < e.stop)
    let marked := l.store.mapIdx (fun j e =>
      if eligible e = true ∧ ((l.store.take j).filter eligible).length < 64 then { e with continued := true } else e)
    let stays := marked.filter (fun e => decide (b1 < e.stop))
    let done (diff : Option Nat) : State :=
      let notes := List.replicate beyond NoteKind.crowded ++ (if diff = none then [] else [NoteKind.differs])
      let x : ExecState :=
        { c.ex with
          progress := c.ex.progress + 1, areaOff := c.ex.areaOff + buf.length, notes := markAll c.ex.notes notes
          diffCount := c.ex.diffCount + (if diff = none then 0 else 1)
          firstDiff := match diff with
            | some d => if c.ex.diffCount = 0 then some (l.nextSeg, c.ex.areaOff + d) else c.ex.firstDiff
            | none => c.ex.firstDiff }
      let u : State :=
        { (s.setLane i { l with
            nextSeg := l.nextSeg + 1, store := stays, segTotal := min (l.segTotal + 1) 4294967295
            counters := countAll l.counters notes, cur := some { c with ex := x } }) with
          cueFree := s.cueFree + (l.store.length - stays.length)
          timing := { s.timing with owner := none, unit := .none, buffer := [] } }
      if l.state = .abandoning then u
      else if ∃ k ∈ notes, l.par.policyOf k = .halt then u.retire i .halted .noteHalt
      else if c.ex.through < l.nextSeg + 1 then u.retire i (if x.notes = 0 then .done else .noted) .none
      else u.setLane i { u.lane i with state := .queued, io := .idle }
    (s.timing.unit = .segWrite → exec .segmentWriteAccepted s = .next
          (s.onLink i { done none with wire := s.wire ++
            [.accepted ((EmitBody.ofBytes c.fields).area + BitVec.ofNat 64 c.ex.areaOff) buf] }))
      ∧ (s.timing.unit = .compare → bytes = buf →
        exec (.compareReadComplete bytes) s = .next (s.onLink i (done none)))
      ∧ ∀ d, s.timing.unit = .compare → bytes.length = buf.length → d < buf.length → bytes.take d = buf.take d →
        bytes[d]? ≠ buf[d]? → exec (.compareReadComplete bytes) s = .next (s.onLink i (done (some d)))

/-- A write of the segment is refused, or the compare read fails: the unit makes none of its changes, the engine is
released and the record fails HOST_ACCESS; an ABANDONING lane only gives the engine up. A refused write may have torn its
area. Where the manual leaves it open, the model's choice: log 33. -/
def Obligations.SegmentFails : Prop :=
  ∀ (s : State) (i : LaneId) (c : Record), s.timing.owner = some i → (s.lane i).cur = some c →
    let free : State := { s with timing := { s.timing with owner := none, unit := .none, buffer := [] } }
    let fails (u : State) : State := if (s.lane i).state = .abandoning then u else u.failRecord i .hostAccess
    (s.timing.unit = .segWrite →
        exec .segmentWriteRefused s = .next (s.onLink i (fails { free with wire := s.wire ++
          [.torn ((EmitBody.ofBytes c.fields).area + BitVec.ofNat 64 c.ex.areaOff) s.timing.buffer] })))
      ∧ (s.timing.unit = .compare → exec .compareReadFail s = .next (s.onLink i (fails free)))

/-! ## Programme blocks and Mix units -/

/-- Block reads of a MIX record of lane i end. A completed live read joins the queue's tail with its samples, setting the
pause flag at 3 blocks; a failed one joins as an errored block and stops the prefetch; a stale one is dropped. Then a
lane in WAIT_DATA whose head is a read block is QUEUED, and one whose head is errored fails HOST_ACCESS; and where R82
holds the next read is issued, of the block from the cursor to the next multiple of 1,024 or the record's end. On a lane
whose current record is no MIX, or that has none, the end of a stale read frees its place and changes nothing else;
without a stale read it changes nothing. Where the manual leaves it open, the model's choice: log 17. -/
def Obligations.BlockReadsEnd : Prop :=
  (∀ (i : LaneId) (bytes : List Byte) (s : State) (b : MixBody), (s.lane i).mixBody = some b →
    let p := (s.lane i).pf
    let set (q : Prefetch) : State := s.setLane i { s.lane i with pf := q }
    let judged (u : State) : State :=
      if (s.lane i).state = .waitData then
        match (u.lane i).pf.queue with
        | .read _ _ _ :: _ => u.setLane i { u.lane i with state := .queued, io := .idle }
        | .errored _ :: _ => u.failRecord i .hostAccess
        | [] => u
      else u
    let prefetched (u : State) : State :=
      let q := (u.lane i).pf
      let k := min ((q.cursor / 1024 + 1) * 1024) b.frames - q.cursor
      if ((u.lane i).state = .waitData ∨ (u.lane i).state = .queued ∨ (u.lane i).state = .working)
          ∧ q.outstanding = .none ∧ q.paused = false ∧ q.stopped = false ∧ q.cursor < b.frames ∧ s.hold = false then
        u.setLane i { u.lane i with pf := { q with outstanding := .live q.cursor k, cursor := q.cursor + k } }
      else u
    (∀ off k, p.outstanding = .live off k → bytes.length = 2 * (k * (s.lane i).par.chans) →
        exec (.blockReadComplete i bytes) s = .next (s.onLink i (prefetched (judged (set
          { p with
            queue := p.queue ++ [.read off k (samplesOf bytes)], paused := p.paused || decide (2 ≤ p.queue.length)
            outstanding := .none })))))
      ∧ (∀ off k, p.outstanding = .live off k →
        exec (.blockReadFail i) s = .next (s.onLink i (judged (set
          { p with
            queue := p.queue ++ [.errored off], paused := p.paused || decide (2 ≤ p.queue.length)
            outstanding := .none, stopped := true }))))
      ∧ (p.outstanding = .stale →
        exec (.staleReadEnd i) s = .next (s.onLink i (prefetched (set { p with outstanding := .none })))))
    ∧ ∀ (i : LaneId) (s : State),
      let p := (s.lane i).pf
      (p.outstanding = .stale → (s.lane i).cur.bind Record.kind ≠ some .mix →
          exec (.staleReadEnd i) s = .next (s.onLink i (s.setLane i { s.lane i with pf := { p with outstanding := .none } })))
        ∧ (p.outstanding ≠ .stale → exec (.staleReadEnd i) s = .next (s.onLink i s))

/-- A Mix Engine is granted when one is free, engine 0 first, HOLD is clear and a lane has a Mix request: to the
requesting lane that comes first after the Mix pointer. The unit takes its view of the clip table; with no clip in the
block it is mixed at once, else it is mixed when the runs of all the clips it needs have been read; its output write is
then issued. -/
def Obligations.MixEngineGranted : Prop :=
  ∀ s : State,
    let wants (i : LaneId) : Prop := (s.lane i).state = .queued ∧ (s.lane i).cur.bind Record.kind = some .mix
    let after (i : LaneId) : Nat := (i.val + 15 - s.mixPtr.val) % 16
    ((((s.mixEng 0).owner ≠ none ∧ (s.mixEng 1).owner ≠ none) ∨ s.hold = true ∨ (∀ i, ¬wants i)) →
        exec .mixEngineGrant s = .next s)
      ∧ (∀ (i : LaneId) (e : MixId) (off k : Nat) (samples : List (BitVec 16)) (rest : List QBlock),
        (s.mixEng e).owner = none → (e = 0 ∨ (s.mixEng 0).owner ≠ none) → s.hold = false → wants i →
        (∀ j, wants j → after i ≤ after j) → (s.lane i).pf.queue = .read off k samples :: rest →
        let l := s.lane i
        let t : State := { s.setLane i { l with state := .working } with mixPtr := i }
        exec .mixEngineGrant s = .next
          (s.onLink i (if neededClips l.table l.par.chans (l.base + off) k = [] then
             t.setMix e { owner := some i, view := l.table, phase := .writing
                          acc := mixBlock l.par l.table [] samples (l.base + off) k }
           else t.setMix e { owner := some i, view := l.table, acc := [], phase := .reading })))
      ∧ ∀ (i : LaneId) (e : MixId) (runs : List (List Byte)) (off k : Nat) (samples : List (BitVec 16)) (rest : List QBlock),
        (s.mixEng e).owner = some i → (s.mixEng e).phase = .reading → (s.lane i).pf.queue = .read off k samples :: rest →
        let l := s.lane i
        let need := neededClips (s.mixEng e).view l.par.chans (l.base + off) k
        runs.map List.length = need.map (fun x => 2 * runCount x (l.base + off) k) →
        exec (.clipSampleReadComplete e runs) s = .next (s.onLink i (s.setMix e
          { s.mixEng e with
            phase := .writing
            acc := mixBlock l.par (s.mixEng e).view (need.zip (runs.map samplesOf)) samples (l.base + off) k }))

/-- The output of a Mix unit is accepted: the engine is released and its accumulators cleared, the block leaves the
queue, m, progress and the total rise by its frames, finished clips are freed to the pool, and CLIPPED is credited once
for each saturated channel sample. Then a HALT policy halts the lane; with all frames mixed the record is DONE or NOTED;
else the lane waits for its next block, as the head and R82 give. Where the manual leaves it open, the model's choice:
log 33. -/
def Obligations.MixBlockWritten : Prop :=
  ∀ (s : State) (e : MixId) (i : LaneId) (c : Record) (off k : Nat) (samples : List (BitVec 16)) (rest : List QBlock),
    (s.mixEng e).owner = some i → (s.mixEng e).phase = .writing → (s.lane i).cur = some c → c.kind = some .mix →
    (s.lane i).pf.queue = .read off k samples :: rest → let l := s.lane i
    let acc := (s.mixEng e).acc
    let f := leField c.fields 16 3
    let notes := List.replicate (acc.filter isClipped).length NoteKind.clipped
    let m := l.mixPos + k
    let stays := l.table.filter (fun x => decide (m < x.start + x.len + x.release))
    let x : ExecState := { c.ex with progress := c.ex.progress + k, notes := markAll c.ex.notes notes }
    let v : Lane :=
      { l with
        mixPos := m, frmTotal := min (l.frmTotal + k) 4294967295, table := stays
        pf := { l.pf with queue := rest, paused := l.pf.paused && decide (2 ≤ rest.length) }
        counters := countAll l.counters notes, cur := some { c with ex := x } }
    let u : State :=
      { ((s.setLane i v).setMix e { owner := none, view := [], acc := [], phase := .idle }) with
        clipFree := s.clipFree + (l.table.length - stays.length)
        wire := s.wire ++
          [.accepted (BitVec.ofNat 64 (leField c.fields 8 8) + BitVec.ofNat 64 (2 * (off * l.par.chans))) (mixedBytes acc)] }
    exec (.mixOutputWriteAccepted e) s = .next
      (s.onLink i (if l.state = .abandoning then u
       else if notes ≠ [] ∧ l.par.policyOf .clipped = .halt then u.retire i .halted .noteHalt
       else if f ≤ x.progress then u.retire i (if x.notes = 0 then .done else .noted) .none
       else ((u.setLane i { u.lane i with state := .waitData, io := .idle }).judgeHead i).prefetch i))

/-- A clip sample read fails, or an output write is refused: none of the unit's changes is made, the engine is released
and its accumulators cleared, and the record fails HOST_ACCESS; an ABANDONING lane only gives the engine up. A refused
write may have torn its output block. Where the manual leaves it open, the model's choice: log 33. -/
def Obligations.MixUnitFails : Prop :=
  ∀ (s : State) (e : MixId) (i : LaneId), (s.mixEng e).owner = some i →
    let free : State := s.setMix e { owner := none, view := [], acc := [], phase := .idle }
    let fails (u : State) : State := if (s.lane i).state = .abandoning then u else u.failRecord i .hostAccess
    ((s.mixEng e).phase = .reading → exec (.clipSampleReadFail e) s = .next (s.onLink i (fails free)))
      ∧ ∀ c off k samples rest, (s.mixEng e).phase = .writing → (s.lane i).cur = some c → c.kind = some .mix →
        (s.lane i).pf.queue = .read off k samples :: rest →
        exec (.mixOutputWriteRefused e) s = .next (s.onLink i (fails
          { free with wire := s.wire ++
            [.torn (BitVec.ofNat 64 (leField c.fields 8 8) + BitVec.ofNat 64 (2 * (off * (s.lane i).par.chans)))
              (mixedBytes (s.mixEng e).acc)] }))

/-! ## The writes of retirements, STOPs, LINKs and teardowns -/

/-- The link accepts the write at the head of a sequence in flight: it is on the link, the next address follows an
accepted resume point (which ends the current record of a final retirement and of a passed LINK), the rest state last
written follows an accepted rest state. With a write left, that one is in flight. With only the notice left it is handed
over: it waits for a slot write in flight; a teardown's notice empties the deferred place and goes to the slot; any other
goes to the slot when the pending bit is clear. With nothing left, or with the notice kept as deferred, the event ends: a
final retirement, a passed LINK and a STOP that CONTINUE has met go on to fetch (or to NOTICE_WAIT with a deferred
notice), a halt is HALTED, a STOP stays STOPPED, an ABANDONING lane waits for its teardown. Where the manual leaves it
open, the model's choice: log 6, 10, 22, 28. -/
def Obligations.RetirementWritten : Prop :=
  ∀ (i : LaneId) (s : State) (q : WriteSeq) (k : WriteKind) (a : Addr) (b : List Byte) (rest : List SeqStep),
    (s.lane i).io = .seq q → q.begun = true → q.steps = .write k a b :: rest → let l : Lane :=
      match k with
      | .resumePoint t =>
        { s.lane i with
          next := some t
          cur := match q.kind with
            | .retire r => if r.outcome = .failed ∨ r.outcome = .halted then (s.lane i).cur else none
            | .linkPass => none
            | _ => (s.lane i).cur }
      | .restState r => { s.lane i with restLast := r }
      | _ => s.lane i
    let put : State := { s with wire := s.wire ++ [.accepted a b] }
    let left : Lane := { l with io := .seq { q with steps := rest } }
    (∀ k' a' b' rest', rest = .write k' a' b' :: rest' →
        exec (.retirementWriteAccepted i) s = .next (s.onLink i (put.setLane i left)))
      ∧ (rest = [] → q.kind ≠ .teardown →
        exec (.retirementWriteAccepted i) s = .next (s.onLink i (put.setLane i (l.eventEnded q false s.hold))))
      ∧ ∀ n rest', rest = .notice n :: rest' →
        exec (.retirementWriteAccepted i) s = .next
          (s.onLink i (put.setLane i (left.noticeHanded { q with steps := rest } n (s.pend.getLsbD i.val) s.hold)))

/-- Writes of a lane that the link refuses; each may have torn its bytes. A refused status, or the result fields before
it, or a refused resume point of a retirement halts the lane with HOST_ACCESS: a final result is kept as an owed
retirement, not accepted or accepted, and of FAILED or HALTED none is kept, not even that of a halted CLOSE; the rest
state HALTED and a FAILED notice with the result's note bits and progress follow, but for an ABANDONING lane. A passed
LINK whose resume point is refused fails HOST_ACCESS with progress 0. A refused rest state is not taken as written, and a
STOP's refused resume point does not move the next address: the halt reason is HOST_ACCESS, and the sequence goes on.
Where the manual leaves it open, the model's choice: log 15, 16, 24. -/
def Obligations.RetirementWritesRefused : Prop :=
  ∀ (i : LaneId) (s : State) (q : WriteSeq) (k : WriteKind) (a : Addr) (b : List Byte) (rest : List SeqStep),
    (s.lane i).io = .seq q → q.begun = true → q.steps = .write k a b :: rest →
    let put : State := { s with wire := s.wire ++ [.torn a b] }
    let halted (c : Record) (r : RecResult) (accepted : Bool) : State :=
      let held : Record := if r.outcome = .failed ∨ r.outcome = .halted then { c with owed := none }
        else { c with owed := some { res := r, accepted := accepted } }
      if (s.lane i).state = .abandoning then put.setLane i { s.lane i with io := .idle, cur := some held }
      else (put.setLane i { s.lane i with haltReason := .hostAccess, cur := some held }).startSeq i .retiring .rehalt
        (restStep s i .halted
          ++ [.notice { addr := c.addr, tag := c.tag, outcome := .failed, reason := .hostAccess, notes := r.notes
                        progress := r.progress, rest := .halted }]) true
    let goesOn : State :=
      (put.setLane i { s.lane i with haltReason := .hostAccess, io := .seq { q with steps := rest } }).runSeq i
    (∀ r c, q.kind = .retire r → k = .status ∨ k = .results → (s.lane i).cur = some c →
        exec (.statusWriteRefused i) s = .next (s.onLink i (halted c r false)))
      ∧ (∀ r t c, q.kind = .retire r → k = .resumePoint t → (s.lane i).cur = some c →
        exec (.resumePointWriteRefused i) s = .next (s.onLink i (halted c r true)))
      ∧ (∀ t c, q.kind = .linkPass → k = .resumePoint t → (s.lane i).cur = some c →
        let u : State := put.setLane i { s.lane i with cur := some { c with ex := ExecState.zero }, io := .idle }
        exec (.linkResumePointRefused i) s = .next
          (s.onLink i (if (s.lane i).state = .abandoning then u else u.failRecord i .hostAccess)))
      ∧ (∀ r, q.kind ≠ .teardown → k = .restState r → exec (.restStateWriteRefused i) s = .next (s.onLink i goesOn))
      ∧ ∀ t, q.kind = .stop → k = .resumePoint t → exec (.stopResumePointRefused i) s = .next (s.onLink i goesOn)

/-- The teardown of an ABANDONING lane begins when nothing of the lane's is in flight, it holds no engine and HOLD is
clear: its places go back to the pools, its queue and intake buffer empty, and its sequence starts in the order status
(unless an accepted one is owed), resume point past the record (a free value for a record held by its address alone; the
next address, or none, without a record), rest state IDLE when it differs, ABANDONED notice. Otherwise nothing changes. A
refused teardown write is not retried: the sequence goes on, marked as failed. At the end of its notice the lane is IDLE
and as after reset, but for the rest state last written, the halt reason HOST_ACCESS when a write was refused, and what
belongs to no lane state. Where the manual leaves it open, the model's choice: log 9, 12, 19, 26, 35. -/
def Obligations.TeardownRuns : Prop :=
  ∀ (i : LaneId) (s : State),
    let l := s.lane i
    let ready : Prop :=
      l.state = .abandoning ∧ l.io = .idle ∧ l.gate.poll ≠ .outstanding ∧ s.timing.owner ≠ some i
        ∧ (s.mixEng 0).owner ≠ some i ∧ (s.mixEng 1).owner ≠ some i ∧ s.hold = false
    let given : State :=
      { s with
        cueFree := s.cueFree + l.store.length, clipFree := s.clipFree + l.table.length, freeCtr := s.freeCtr + 1 }
    let bare : Lane :=
      { l with
        store := [], lastStart := 0, table := [], intake := [], overrun := false
        pf := { queue := [], paused := false, cursor := 0, stopped := false
                outstanding := if l.pf.outstanding = .none then .none else .stale } }
    let tearing (steps : List SeqStep) : State :=
      (given.setLane i { bare with
        io := .seq { kind := .teardown, steps := steps, begun := true, failed := false } }).runSeq i
    (¬ready → exec (.abandonTeardown i) s = .next (s.onLink i s))
      ∧ (∀ c, ready → l.cur = some c →
        let r : RecResult := { outcome := .abandoned, reason := .none, notes := c.ex.notes, progress := c.ex.progress }
        let len : BitVec 64 := match c.hdr with
          | some h => BitVec.ofNat 64 h.len
          | none => (Config.unreadLength s.freeCtr).setWidth 64
        exec (.abandonTeardown i) s = .next (s.onLink i (tearing
          ((if c.owed.any Owed.accepted then [] else statusSteps c r)
            ++ [resumeStep s i (c.addr + len)] ++ restStep s i .idle
            ++ [.notice { addr := c.addr, tag := c.tag, outcome := .abandoned, reason := .none, notes := c.ex.notes
                          progress := c.ex.progress, rest := .idle }]))))
      ∧ (ready → l.cur = none →
        exec (.abandonTeardown i) s = .next (s.onLink i (tearing
          ((match l.next with | some a => [resumeStep s i a] | none => []) ++ restStep s i .idle
            ++ [.notice { addr := l.next.getD 0, tag := 0, outcome := .abandoned, reason := .none, notes := 0
                          progress := 0, rest := .idle }]))))
      ∧ (∀ q k a b rest, l.io = .seq q → q.begun = true → q.kind = .teardown → q.steps = .write k a b :: rest → rest ≠ [] →
        exec (.teardownWriteRefused i) s = .next
          (s.onLink i ((({ s with wire := s.wire ++ [.torn a b] } : State).setLane i
            { l with io := .seq { q with steps := rest, failed := true } }).runSeq i)))
      ∧ ∀ q w, l.io = .seq q → q.kind = .teardown → l.slot = some w → w.own = true →
        let idle (refused : Bool) : Lane :=
          { Lane.reset with
            haltReason := if q.failed || refused then .hostAccess else .none
            restLast := l.restLast
            gate := { deadline := 0, poll := .none, stale := l.gate.stale || decide (l.gate.poll = .outstanding) }
            pf := { Prefetch.reset with outstanding := if l.pf.outstanding = .none then .none else .stale }
            deferred := l.deferred }
        let a := noticeSlotAddr s.dirBase i
        (exec (.noticeSlotWriteAccepted i) s = .next
            (s.onLink i ((s.noticePosted i w [.accepted a w.notice.bytes]).setLane i (idle false))))
          ∧ exec (.noticeSlotWriteRefused i) s = .next
            (s.onLink i ((s.noticePosted i w []).setLane i (idle true)))

/-! ## Notices and the INSPECT -/

/-- A notice slot write ends, accepted, or refused and so with the slot left as it was: the place is free, the pending
bit is set where this write sets it, and a rise under a set mask bit asks for one MSI. The lane's own sequence then ends
as its event gives; or a lane in NOTICE_WAIT leaves it, for a fetch, for the re-read of RESUME or for its SKIP; or a
sequence whose notice waited for this write goes on, any other lane staying as it is. A refusal also leaves HOST_ACCESS
as the halt reason. Where the manual leaves it open, the model's choice: log 10, 19. -/
def Obligations.NoticeSlotWriteEnds : Prop :=
  ∀ (i : LaneId) (s : State) (w : SlotWrite), (s.lane i).slot = some w →
    let free (why : Reason) : Lane := { s.lane i with slot := none, haltReason := why }
    let good : State := s.noticePosted i w [.accepted (noticeSlotAddr s.dirBase i) w.notice.bytes]
    let bad : State := s.noticePosted i w []
    let l0 : Lane := free (s.lane i).haltReason
    let l1 : Lane := free .hostAccess
    (∀ q, w.own = true → (s.lane i).io = .seq q → q.kind ≠ .teardown →
        (exec (.noticeSlotWriteAccepted i) s = .next
            (s.onLink i (good.setLane i (l0.eventEnded q false s.hold))))
          ∧ exec (.noticeSlotWriteRefused i) s = .next (s.onLink i (bad.setLane i (l1.eventEnded q false s.hold))))
      ∧ (w.own = false → (s.lane i).state = .noticeWait → (s.lane i).waitAct = .fetch →
        (exec (.noticeSlotWriteAccepted i) s = .next
            (s.onLink i (good.setLane i { l0 with state := .fetching, io := .read (.header false) (!s.hold) })))
          ∧ exec (.noticeSlotWriteRefused i) s = .next
            (s.onLink i (bad.setLane i { l1 with state := .fetching, io := .read (.header false) (!s.hold) })))
      ∧ (w.own = false → (s.lane i).state = .noticeWait → (s.lane i).waitAct = .resume →
        let r : LaneRead := if (s.lane i).cur = none then .entry else .header false
        (exec (.noticeSlotWriteAccepted i) s = .next
            (s.onLink i (good.setLane i { l0 with state := .fetching, io := .read r (!s.hold) })))
          ∧ exec (.noticeSlotWriteRefused i) s = .next
            (s.onLink i (bad.setLane i { l1 with state := .fetching, io := .read r (!s.hold) })))
      ∧ (w.own = false → (s.lane i).state = .noticeWait → (s.lane i).waitAct = .skip →
        (exec (.noticeSlotWriteAccepted i) s = .next
            (s.onLink i ((good.setLane i l0).skipNow i)))
          ∧ exec (.noticeSlotWriteRefused i) s = .next (s.onLink i ((bad.setLane i l1).skipNow i)))
      ∧ (w.own = false → (s.lane i).state ≠ .noticeWait →
        (exec (.noticeSlotWriteAccepted i) s = .next
            (s.onLink i ((good.setLane i l0).runSeq i)))
          ∧ exec (.noticeSlotWriteRefused i) s = .next (s.onLink i ((bad.setLane i l1).runSeq i)))

/-- An INSPECT goes on: its read of the entry gives an address and a capacity. An address of 0 or not 8-aligned, a
capacity below 96, or a failed read ends it INSPECT_FAILED with nothing written. Else the image is written: 96 bytes,
then the longest leading run of entries that fits, whole; the fixed part counts the entries written and omitted. Its
acceptance ends it INSPECT_DONE, a refusal INSPECT_FAILED, and the busy flag clears. The image to the byte: the fields of
the fixed part at their offsets, with the codes of lane states and kinds; each cue entry with its times, slot, style,
flags, char count and padded text; each clip entry with its address, start, length, gains, ramps and mask. -/
def Obligations.InspectRuns : Prop :=
  (∀ (s : State) (j : InspectJob) (bytes : BitVec 96) (a : Addr) (b : List Byte), s.port.job = some j →
    let done (r : CmdResult) : State := { s with port := { s.port with lastResult := r, job := none } }
    let addr : Addr := bytes.extractLsb' 0 64
    let cap := (bytes.extractLsb' 64 32).toNat
    let kept := entriesWithin (cap - 96) j.snap.entries
    (j.phase = .entryRead →
        (exec (.inspectEntryReadComplete bytes) s = .next (s.onLinkInspect
            (if addr = 0 ∨ addr.toNat % 8 ≠ 0 ∨ cap < 96 then done .inspectFailed
             else { s with port := { s.port with job := some { j with
               phase := .writing addr (j.snap.fixedPart kept.length (j.snap.entries.length - kept.length)
                 ++ kept.flatten) } } })))
          ∧ exec .inspectEntryReadFail s = .next (done .inspectFailed))
      ∧ j.snap.entries = j.snap.cues.map CueEntry.imageBytes ++ j.snap.clips.map ClipEntry.imageBytes
      ∧ (96 ≤ cap → (j.snap.image cap).length ≤ cap
        ∧ j.snap.image cap = j.snap.fixedPart kept.length (j.snap.entries.length - kept.length) ++ kept.flatten
        ∧ ∃ n, kept = j.snap.entries.take n ∧ ∀ e ∈ (j.snap.entries.drop n).head?, cap < 96 + kept.flatten.length + e.length)
      ∧ (j.phase = .writing a b →
        (exec .inspectDone s = .next { done .inspectDone with wire := s.wire ++ [.accepted a b] })
          ∧ exec .inspectFailed s = .next { done .inspectFailed with wire := s.wire ++ [.torn a b] }))
    ∧ (∀ (x : Snapshot) (written omitted : Nat), written < 2 ^ 32 → omitted < 2 ^ 32 →
      let f := x.fixedPart written omitted
      f.length = 96 ∧ leField f 0 1 = x.state.code ∧ leField f 1 1 = x.kind.code ∧ leField f 2 1 = x.halt.code
        ∧ leField f 3 1 = x.lane.val ∧ leField f 4 4 = x.progress % 2 ^ 32 ∧ leField f 8 8 = x.recAddr.toNat
        ∧ leField f 16 8 = x.pos % 2 ^ 64 ∧ leField f 24 4 = written ∧ leField f 28 4 = omitted
        ∧ (∀ k : Fin 14, leField f (32 + 4 * k.val) 4 = x.counters.get k % 2 ^ 32)
        ∧ leField f 88 4 = x.segTotal % 2 ^ 32 ∧ leField f 92 4 = x.frmTotal % 2 ^ 32)
    ∧ [LaneState.idle, .fetching, .gated, .waitData, .queued, .working, .retiring, .noticeWait, .stopped, .halted,
        .abandoning].map LaneState.code = [0, 1, 2, 3, 4, 5, 6, 7, 8, 9, 10]
    ∧ [LaneKind.none, .subtitle, .description].map LaneKind.code = [0, 1, 2]
    ∧ (∀ e : CueEntry, e.text.length ≤ 240 → e.chars ≤ 240 → e.start ≤ maxTime → e.stop ≤ maxTime →
      let b := e.imageBytes
      let size := 24 + (e.text.length + 7) / 8 * 8
      b.length = size ∧ leField b 0 8 = e.start ∧ leField b 8 8 = e.stop ∧ leField b 16 1 = e.slot.toNat
        ∧ leField b 17 1 = e.style.toNat ∧ leField b 18 1 = (if e.forced then 1 else 0) + (if e.continued then 2 else 0)
        ∧ leField b 19 1 = e.chars ∧ leField b 20 2 = e.text.length ∧ leField b 22 2 = 0
        ∧ b.drop 24 = e.text ++ List.replicate (size - 24 - e.text.length) 0)
    ∧ ∀ e : ClipEntry,
      let b := e.imageBytes
      b.length = 32 ∧ leField b 0 8 = e.pcm.toNat ∧ leField b 8 8 = e.start % 2 ^ 64 ∧ leField b 16 4 = e.len % 2 ^ 32
        ∧ leField b 20 2 = e.gain % 2 ^ 16 ∧ leField b 22 2 = e.duck % 2 ^ 16 ∧ leField b 24 2 = e.attack % 2 ^ 16
        ∧ leField b 26 2 = e.release % 2 ^ 16 ∧ leField b 28 1 = e.mask.toNat ∧ leField b 29 3 = 0

/-! ## Arithmetic -/

/-- Times. Conversion gives the nearest whole tick, a tie to the later one; the offset is added, a sum beyond the time
range is clamped to its end with RANGE, a negative one is handed on as it is; a clip's start below 0 becomes 0 with
BEFORE_ZERO. Snapping gives the nearest multiple of G, a tie to the later one, and G = 0 leaves the time; beyond the time
range the largest multiple of G within it is taken, with RANGE; the required duration is the larger of D_min and the
reading time, the reading time the least whole number of ticks that reads no faster than cps10 / 10 characters a second.
-/
def Obligations.TimesConverted : Prop :=
  (∀ (p : Params) (t : Nat), 0 < p.ns →
      let x := convertTime p t
      2 * (t * p.ds * p.rOut) < 2 * x * p.ns + p.ns ∧ 2 * x * p.ns ≤ 2 * (t * p.ds * p.rOut) + p.ns)
    ∧ (∀ (p : Params) (t : Nat),
      let x : Int := (convertTime p t : Int) + p.offset
      (x ≤ 281474976710655 → placeTime p t = (x, false))
        ∧ (281474976710655 < x → placeTime p t = (281474976710655, true) ∧ placeClip p t = (281474976710655, [.range]))
        ∧ (0 ≤ x → x ≤ 281474976710655 → placeClip p t = (x.toNat, []))
        ∧ (x < 0 → placeClip p t = (0, [.beforeZero])))
    ∧ (∀ v : Nat, v ≤ maxTime → snapTime 0 v = (v, false))
    ∧ (∀ g v : Nat, 0 < g → v ≤ maxTime →
      let w := (snapTime g v).1
      w % g = 0 ∧ w ≤ maxTime
        ∧ ((snapTime g v).2 = false → 2 * v < 2 * w + g ∧ 2 * w ≤ 2 * v + g)
        ∧ ((snapTime g v).2 = true → maxTime < w + g ∧ g ≤ 2 * (v - w) ∧ v < w + g))
    ∧ (∀ (p : Params) (c : Nat), requiredTicks p c = max p.dMin (if p.cps10 = 0 then 0 else readingTicks p c))
    ∧ ∀ (p : Params) (c n : Nat), 0 < p.cps10 → (readingTicks p c ≤ n ↔ c * p.rOut * 10 ≤ n * p.cps10)

/-- What the pipeline makes of a cue before allocation: whether it is dropped or goes on, with its times, its text, its
notes in the order they arise, and last_start. On a forced_only lane a cue that is not forced is dropped FILTERED. A text
beyond 240 bytes is cut at the last code point start from 0 to 240, with TEXT_CUT. Each time is converted, clamped with
at most one RANGE, and snapped. A cue that ends at 0 or before is dropped BEFORE_ZERO; one that starts before 0 starts at
0 with BEFORE_ZERO; one that starts before last_start is dropped OUT_OF_ORDER; before the horizon it is cut to it with
LATE, or dropped LATE when it ends there, as every cue is at a horizon beyond the time range. Without length and required
duration it is dropped EMPTY_CUE; one shorter than its required duration is EXTENDED, at most to the range's end with
RANGE, and dropped RANGE and EMPTY_CUE when it starts there. A cue that goes on has start below end within the range. -/
def Obligations.CuesPrepared : Prop :=
  ∀ (p : Params) (h last : Nat) (c : RawCue),
    c.text.length = min (cueTextLen c) 241 ∨ c.text.length = cueTextLen c →
    let r := prepareCue p h last c
    (p.forcedOnly = true → cueForced c = false → r = (.drop, [.filtered], last))
      ∧ (∀ text : List Byte, (p.forcedOnly = false ∨ cueForced c = true) →
        ((cueTextLen c ≤ 240 ∧ text = c.text)
          ∨ ∃ n, 240 < cueTextLen c ∧ n ≤ 240 ∧ text = c.text.take n
            ∧ (n = 0 ∨ (byteAt c.text n).toNat < 0x80 ∨ 0xBF < (byteAt c.text n).toNat)
            ∧ ∀ m, n < m → m ≤ 240 → 0x80 ≤ (byteAt c.text m).toNat ∧ (byteAt c.text m).toNat ≤ 0xBF) →
        let one (b : Prop) [Decidable b] (k : NoteKind) : List NoteKind := if b then [k] else []
        let s0 : Int := (convertTime p (cueSrcStart c) : Int) + p.offset
        let e0 : Int := (convertTime p (cueSrcEnd c) : Int) + p.offset
        let s1 := snapTime p.grid (min s0 maxTime).toNat
        let e1 := snapTime p.grid (min e0 maxTime).toNat
        let converted := one (240 < cueTextLen c) .textCut ++ one (maxTime < s0) .range ++ one (maxTime < e0) .range
        let snapped := converted ++ one (s0 < 0) .beforeZero ++ one (s1.2 = true ∧ s0 ≤ maxTime) .range
          ++ one (e1.2 = true ∧ e0 ≤ maxTime) .range
        let start := max s1.1 h
        let clamped := snapped ++ one (s1.1 < h) .late
        let req := requiredTicks p (charCount text)
        (e0 ≤ 0 → r = (.drop, converted ++ [.beforeZero], last))
          ∧ (0 < e0 → s1.1 < last → r = (.drop, snapped ++ [.outOfOrder], last))
          ∧ (0 < e0 → last ≤ s1.1 →
            ((maxTime < h ∨ (s1.1 < h ∧ e1.1 ≤ h)) → r = (.drop, snapped ++ [.late], s1.1))
              ∧ (h ≤ s1.1 ∨ h < e1.1 →
                (e1.1 ≤ start → req = 0 → r = (.drop, clamped ++ [.emptyCue], s1.1))
                  ∧ (start < e1.1 ∨ 0 < req →
                    (start + req ≤ e1.1 → r = (.pass start e1.1 text, clamped, s1.1))
                      ∧ (e1.1 < start + req → start + req ≤ maxTime →
                        r = (.pass start (start + req) text, clamped ++ [.extended], s1.1))
                      ∧ (e1.1 < start + req → maxTime < start + req → start < maxTime →
                        r = (.pass start maxTime text, clamped ++ [.extended, .range], s1.1))
                      ∧ (e1.1 < start + req → maxTime < start + req → start = maxTime →
                        r = (.drop, clamped ++ [.range, .emptyCue], s1.1))))))
      ∧ last ≤ r.2.2
      ∧ ∀ start stop text, r.1 = .pass start stop text →
        h ≤ start ∧ last ≤ start ∧ r.2.2 ≤ start ∧ start < stop ∧ stop ≤ maxTime
          ∧ (start + requiredTicks p (charCount text) ≤ stop ∨ stop = maxTime)
          ∧ text.length ≤ 240 ∧ text <+: c.text
          ∧ (text.length < c.text.length ↔ 240 < cueTextLen c)

/-- The mix. The envelope of a clip lies between its depth and unity, is unity beyond its ramps and its depth in its
body; the programme envelope is the smallest. The programme takes it on the channels of the duck mask; each clip run of
the block adds its sample times its gain on its mask's channels in its body. The accumulators of a block stand frame by
frame, channel 0 first; the clips a block needs are those whose body meets it with a mask bit below C, in table order,
each read for the samples in the block. An accumulator is rounded to the nearest sample, a tie to the greater, and
saturated to 16 bits; with no clip and no duck a programme sample passes unchanged. Samples are read and written as
16-bit little-endian words, in order. -/
def Obligations.MixArithmetic : Prop :=
  (∀ (e : ClipEntry) (n : Nat), e.duck ≤ 16384 →
      e.duck ≤ e.envelope n ∧ e.envelope n ≤ 16384
        ∧ (e.start ≤ n + e.attack → n < e.start →
            e.envelope n + (16384 - e.duck) * (n + e.attack - e.start) / e.attack = 16384)
        ∧ (e.start ≤ n → n < e.start + e.len → e.envelope n = e.duck)
        ∧ (e.start + e.len ≤ n → n < e.start + e.len + e.release →
            e.envelope n = e.duck + (16384 - e.duck) * (n - (e.start + e.len)) / e.release)
        ∧ (n + e.attack < e.start ∨ e.start + e.len + e.release ≤ n → e.envelope n = 16384))
    ∧ (∀ (v : List ClipEntry) (n : Nat),
      duckEnvelope v n ≤ 16384 ∧ (∀ e ∈ v, duckEnvelope v n ≤ e.envelope n)
        ∧ (duckEnvelope v n = 16384 ∨ ∃ e ∈ v, duckEnvelope v n = e.envelope n))
    ∧ (∀ a : Int, 2 * (16384 * roundAcc a) ≤ 2 * a + 16384 ∧ 2 * a + 16384 < 2 * (16384 * (roundAcc a + 1)))
    ∧ (∀ a : Int, -32768 ≤ saturate (roundAcc a) ∧ saturate (roundAcc a) ≤ 32767
      ∧ (isClipped a = false ↔ saturate (roundAcc a) = roundAcc a))
    ∧ (∀ (p : Params) (v : List ClipEntry) (samples : List (BitVec 16)) (n0 f ch : Nat), p.duckMask.getLsbD ch = false →
      saturate (roundAcc (mixOne p v [] samples n0 f ch)) = (samples.getD (f * p.chans + ch) 0).toInt)
    ∧ (∀ (p : Params) (v : List ClipEntry) (runs : List (ClipEntry × List (BitVec 16))) (samples : List (BitVec 16))
        (n0 f ch : Nat),
      mixOne p v runs samples n0 f ch =
        (samples.getD (f * p.chans + ch) 0).toInt
            * (if p.duckMask.getLsbD ch = true then duckEnvelope v (n0 + f) else 16384)
          + (runs.map (fun (e, xs) =>
              if e.start ≤ n0 + f ∧ n0 + f < e.start + e.len ∧ e.mask.getLsbD ch = true then
                (xs.getD (n0 + f - max n0 e.start) 0).toInt * e.gain
              else 0)).sum)
    ∧ (∀ (p : Params) (v : List ClipEntry) (runs : List (ClipEntry × List (BitVec 16))) (samples : List (BitVec 16))
        (n0 k : Nat),
      let acc := mixBlock p v runs samples n0 k
      acc.length = k * p.chans
        ∧ ∀ f ch, f < k → ch < p.chans → acc[f * p.chans + ch]? = some (mixOne p v runs samples n0 f ch))
    ∧ (∀ (v : List ClipEntry) (c n0 k : Nat), neededClips v c n0 k = v.filter (fun e => decide
        (e.start < n0 + k ∧ n0 < e.start + e.len ∧ ∃ ch : Fin 8, ch.val < c ∧ e.mask.getLsbD ch.val = true)))
    ∧ (∀ (e : ClipEntry) (n0 k j : Nat), e.start < n0 + k → n0 < e.start + e.len →
      (runFirst e n0 ≤ j ∧ j < runFirst e n0 + runCount e n0 k ↔ j < e.len ∧ n0 ≤ e.start + j ∧ e.start + j < n0 + k))
    ∧ (∀ (bytes : List Byte) (j : Nat), (samplesOf bytes).length = bytes.length / 2
      ∧ (j < bytes.length / 2 → (samplesOf bytes)[j]? = some (BitVec.ofNat 16 (leField bytes (2 * j) 2))))
    ∧ ∀ (acc : List Int) (j : Nat) (a : Int), (mixedBytes acc).length = 2 * acc.length
      ∧ (acc[j]? = some a → BitVec.ofNat 16 (leField (mixedBytes acc) (2 * j) 2) = BitVec.ofInt 16 (saturate (roundAcc a)))
end

