-- ==== Sys2Proof/Laws/State.lean ====
section
/-! SUPPORT. One lemma for each field and each update of the state, so that no later proof unfolds a record update. -/

namespace Sys2Proof.Machine

open Sys2Proof

/-! ## Lanes -/

@[simp] theorem State.lane_setLane_same (s : State) (i : LaneId) (l : Lane) : (s.setLane i l).lane i = l := by
  simp [State.lane, State.setLane, Vector.get_eq_getElem]

@[simp] theorem State.lane_setLane_ne (s : State) {i j : LaneId} (l : Lane) (h : j ≠ i) :
    (s.setLane i l).lane j = s.lane j := by
  have h' : i.val ≠ j.val := fun e => h (Fin.ext e.symm)
  simp [State.lane, State.setLane, Vector.get_eq_getElem, h']

theorem State.lane_setLane (s : State) (i j : LaneId) (l : Lane) :
    (s.setLane i l).lane j = if j = i then l else s.lane j := by
  by_cases h : j = i
  · subst h; simp
  · simp [h]

@[simp] theorem State.lane_modLane_same (s : State) (i : LaneId) (f : Lane → Lane) :
    (s.modLane i f).lane i = f (s.lane i) := by simp [State.modLane]

@[simp] theorem State.lane_modLane_ne (s : State) {i j : LaneId} (f : Lane → Lane) (h : j ≠ i) :
    (s.modLane i f).lane j = s.lane j := by simp [State.modLane, h]

theorem State.lane_modLane (s : State) (i j : LaneId) (f : Lane → Lane) :
    (s.modLane i f).lane j = if j = i then f (s.lane i) else s.lane j := State.lane_setLane s i j _

@[simp] theorem State.setLane_setLane (s : State) (i : LaneId) (l l' : Lane) :
    (s.setLane i l).setLane i l' = s.setLane i l' := by
  simp [State.setLane]

@[simp] theorem State.setLane_lane (s : State) (i : LaneId) : s.setLane i (s.lane i) = s := by
  simp [State.setLane, State.lane, Vector.get_eq_getElem]

@[simp] theorem State.modLane_modLane (s : State) (i : LaneId) (f g : Lane → Lane) :
    (s.modLane i f).modLane i g = s.modLane i (fun l => g (f l)) := by simp [State.modLane]

theorem State.modLane_eq (s : State) (i : LaneId) (f : Lane → Lane) : s.modLane i f = s.setLane i (f (s.lane i)) := rfl

/-- Two states are equal when their lanes and all their other fields are. -/
theorem State.ext_lanes {s t : State} (hl : ∀ i, s.lane i = t.lane i)
    (h : { s with lanes := t.lanes } = t) : s = t := by
  have : s.lanes = t.lanes := by
    apply Vector.ext
    intro i hi
    simpa [State.lane, Vector.get_eq_getElem] using hl ⟨i, hi⟩
  rw [← h]
  cases s
  simp_all

/-! ## setLane -/

@[simp] theorem State.setLane_cueFree (s : State) (i : LaneId) (l : Lane) : (s.setLane i l).cueFree = s.cueFree := rfl
@[simp] theorem State.setLane_clipFree (s : State) (i : LaneId) (l : Lane) : (s.setLane i l).clipFree = s.clipFree := rfl
@[simp] theorem State.setLane_timing (s : State) (i : LaneId) (l : Lane) : (s.setLane i l).timing = s.timing := rfl
@[simp] theorem State.setLane_mix (s : State) (i : LaneId) (l : Lane) : (s.setLane i l).mix = s.mix := rfl
@[simp] theorem State.setLane_mixPtr (s : State) (i : LaneId) (l : Lane) : (s.setLane i l).mixPtr = s.mixPtr := rfl
@[simp] theorem State.setLane_pend (s : State) (i : LaneId) (l : Lane) : (s.setLane i l).pend = s.pend := rfl
@[simp] theorem State.setLane_mask (s : State) (i : LaneId) (l : Lane) : (s.setLane i l).mask = s.mask := rfl
@[simp] theorem State.setLane_dirBase (s : State) (i : LaneId) (l : Lane) : (s.setLane i l).dirBase = s.dirBase := rfl
@[simp] theorem State.setLane_port (s : State) (i : LaneId) (l : Lane) : (s.setLane i l).port = s.port := rfl
@[simp] theorem State.setLane_dev (s : State) (i : LaneId) (l : Lane) : (s.setLane i l).dev = s.dev := rfl
@[simp] theorem State.setLane_bus (s : State) (i : LaneId) (l : Lane) : (s.setLane i l).bus = s.bus := rfl
@[simp] theorem State.setLane_wire (s : State) (i : LaneId) (l : Lane) : (s.setLane i l).wire = s.wire := rfl
@[simp] theorem State.setLane_msiAsked (s : State) (i : LaneId) (l : Lane) : (s.setLane i l).msiAsked = s.msiAsked := rfl
@[simp] theorem State.setLane_freeCtr (s : State) (i : LaneId) (l : Lane) : (s.setLane i l).freeCtr = s.freeCtr := rfl
@[simp] theorem State.setLane_pending (s : State) (i : LaneId) (l : Lane) : (s.setLane i l).pending = s.pending := rfl

/-! ## modLane -/

@[simp] theorem State.modLane_cueFree (s : State) (i : LaneId) (f : Lane → Lane) : (s.modLane i f).cueFree = s.cueFree := rfl
@[simp] theorem State.modLane_clipFree (s : State) (i : LaneId) (f : Lane → Lane) : (s.modLane i f).clipFree = s.clipFree := rfl
@[simp] theorem State.modLane_timing (s : State) (i : LaneId) (f : Lane → Lane) : (s.modLane i f).timing = s.timing := rfl
@[simp] theorem State.modLane_mix (s : State) (i : LaneId) (f : Lane → Lane) : (s.modLane i f).mix = s.mix := rfl
@[simp] theorem State.modLane_mixPtr (s : State) (i : LaneId) (f : Lane → Lane) : (s.modLane i f).mixPtr = s.mixPtr := rfl
@[simp] theorem State.modLane_pend (s : State) (i : LaneId) (f : Lane → Lane) : (s.modLane i f).pend = s.pend := rfl
@[simp] theorem State.modLane_mask (s : State) (i : LaneId) (f : Lane → Lane) : (s.modLane i f).mask = s.mask := rfl
@[simp] theorem State.modLane_dirBase (s : State) (i : LaneId) (f : Lane → Lane) : (s.modLane i f).dirBase = s.dirBase := rfl
@[simp] theorem State.modLane_port (s : State) (i : LaneId) (f : Lane → Lane) : (s.modLane i f).port = s.port := rfl
@[simp] theorem State.modLane_dev (s : State) (i : LaneId) (f : Lane → Lane) : (s.modLane i f).dev = s.dev := rfl
@[simp] theorem State.modLane_bus (s : State) (i : LaneId) (f : Lane → Lane) : (s.modLane i f).bus = s.bus := rfl
@[simp] theorem State.modLane_wire (s : State) (i : LaneId) (f : Lane → Lane) : (s.modLane i f).wire = s.wire := rfl
@[simp] theorem State.modLane_msiAsked (s : State) (i : LaneId) (f : Lane → Lane) : (s.modLane i f).msiAsked = s.msiAsked := rfl
@[simp] theorem State.modLane_freeCtr (s : State) (i : LaneId) (f : Lane → Lane) : (s.modLane i f).freeCtr = s.freeCtr := rfl
@[simp] theorem State.modLane_pending (s : State) (i : LaneId) (f : Lane → Lane) : (s.modLane i f).pending = s.pending := rfl

/-! ## put -/

@[simp] theorem State.put_lanes (s : State) (w : LinkWrite) : (s.put w).lanes = s.lanes := rfl
@[simp] theorem State.put_cueFree (s : State) (w : LinkWrite) : (s.put w).cueFree = s.cueFree := rfl
@[simp] theorem State.put_clipFree (s : State) (w : LinkWrite) : (s.put w).clipFree = s.clipFree := rfl
@[simp] theorem State.put_timing (s : State) (w : LinkWrite) : (s.put w).timing = s.timing := rfl
@[simp] theorem State.put_mix (s : State) (w : LinkWrite) : (s.put w).mix = s.mix := rfl
@[simp] theorem State.put_mixPtr (s : State) (w : LinkWrite) : (s.put w).mixPtr = s.mixPtr := rfl
@[simp] theorem State.put_pend (s : State) (w : LinkWrite) : (s.put w).pend = s.pend := rfl
@[simp] theorem State.put_mask (s : State) (w : LinkWrite) : (s.put w).mask = s.mask := rfl
@[simp] theorem State.put_dirBase (s : State) (w : LinkWrite) : (s.put w).dirBase = s.dirBase := rfl
@[simp] theorem State.put_port (s : State) (w : LinkWrite) : (s.put w).port = s.port := rfl
@[simp] theorem State.put_dev (s : State) (w : LinkWrite) : (s.put w).dev = s.dev := rfl
@[simp] theorem State.put_bus (s : State) (w : LinkWrite) : (s.put w).bus = s.bus := rfl
@[simp] theorem State.put_msiAsked (s : State) (w : LinkWrite) : (s.put w).msiAsked = s.msiAsked := rfl
@[simp] theorem State.put_freeCtr (s : State) (w : LinkWrite) : (s.put w).freeCtr = s.freeCtr := rfl
@[simp] theorem State.put_pending (s : State) (w : LinkWrite) : (s.put w).pending = s.pending := rfl

@[simp] theorem State.put_wire (s : State) (w : LinkWrite) : (s.put w).wire = s.wire ++ [w] := rfl
@[simp] theorem State.lane_put (s : State) (w : LinkWrite) (i : LaneId) : (s.put w).lane i = s.lane i := rfl

/-! ## releaseTiming -/

@[simp] theorem State.releaseTiming_lanes (s : State) : (s.releaseTiming).lanes = s.lanes := rfl
@[simp] theorem State.releaseTiming_cueFree (s : State) : (s.releaseTiming).cueFree = s.cueFree := rfl
@[simp] theorem State.releaseTiming_clipFree (s : State) : (s.releaseTiming).clipFree = s.clipFree := rfl
@[simp] theorem State.releaseTiming_mix (s : State) : (s.releaseTiming).mix = s.mix := rfl
@[simp] theorem State.releaseTiming_mixPtr (s : State) : (s.releaseTiming).mixPtr = s.mixPtr := rfl
@[simp] theorem State.releaseTiming_pend (s : State) : (s.releaseTiming).pend = s.pend := rfl
@[simp] theorem State.releaseTiming_mask (s : State) : (s.releaseTiming).mask = s.mask := rfl
@[simp] theorem State.releaseTiming_dirBase (s : State) : (s.releaseTiming).dirBase = s.dirBase := rfl
@[simp] theorem State.releaseTiming_port (s : State) : (s.releaseTiming).port = s.port := rfl
@[simp] theorem State.releaseTiming_dev (s : State) : (s.releaseTiming).dev = s.dev := rfl
@[simp] theorem State.releaseTiming_bus (s : State) : (s.releaseTiming).bus = s.bus := rfl
@[simp] theorem State.releaseTiming_wire (s : State) : (s.releaseTiming).wire = s.wire := rfl
@[simp] theorem State.releaseTiming_msiAsked (s : State) : (s.releaseTiming).msiAsked = s.msiAsked := rfl
@[simp] theorem State.releaseTiming_freeCtr (s : State) : (s.releaseTiming).freeCtr = s.freeCtr := rfl
@[simp] theorem State.releaseTiming_pending (s : State) : (s.releaseTiming).pending = s.pending := rfl

@[simp] theorem State.lane_releaseTiming (s : State) (i : LaneId) : s.releaseTiming.lane i = s.lane i := rfl
@[simp] theorem State.releaseTiming_owner (s : State) : s.releaseTiming.timing.owner = none := rfl
@[simp] theorem State.releaseTiming_ptr (s : State) : s.releaseTiming.timing.ptr = s.timing.ptr := rfl

/-! ## setMix -/

@[simp] theorem State.setMix_lanes (s : State) (e : MixId) (m : MixEngine) : (s.setMix e m).lanes = s.lanes := rfl
@[simp] theorem State.setMix_cueFree (s : State) (e : MixId) (m : MixEngine) : (s.setMix e m).cueFree = s.cueFree := rfl
@[simp] theorem State.setMix_clipFree (s : State) (e : MixId) (m : MixEngine) : (s.setMix e m).clipFree = s.clipFree := rfl
@[simp] theorem State.setMix_timing (s : State) (e : MixId) (m : MixEngine) : (s.setMix e m).timing = s.timing := rfl
@[simp] theorem State.setMix_mixPtr (s : State) (e : MixId) (m : MixEngine) : (s.setMix e m).mixPtr = s.mixPtr := rfl
@[simp] theorem State.setMix_pend (s : State) (e : MixId) (m : MixEngine) : (s.setMix e m).pend = s.pend := rfl
@[simp] theorem State.setMix_mask (s : State) (e : MixId) (m : MixEngine) : (s.setMix e m).mask = s.mask := rfl
@[simp] theorem State.setMix_dirBase (s : State) (e : MixId) (m : MixEngine) : (s.setMix e m).dirBase = s.dirBase := rfl
@[simp] theorem State.setMix_port (s : State) (e : MixId) (m : MixEngine) : (s.setMix e m).port = s.port := rfl
@[simp] theorem State.setMix_dev (s : State) (e : MixId) (m : MixEngine) : (s.setMix e m).dev = s.dev := rfl
@[simp] theorem State.setMix_bus (s : State) (e : MixId) (m : MixEngine) : (s.setMix e m).bus = s.bus := rfl
@[simp] theorem State.setMix_wire (s : State) (e : MixId) (m : MixEngine) : (s.setMix e m).wire = s.wire := rfl
@[simp] theorem State.setMix_msiAsked (s : State) (e : MixId) (m : MixEngine) : (s.setMix e m).msiAsked = s.msiAsked := rfl
@[simp] theorem State.setMix_freeCtr (s : State) (e : MixId) (m : MixEngine) : (s.setMix e m).freeCtr = s.freeCtr := rfl
@[simp] theorem State.setMix_pending (s : State) (e : MixId) (m : MixEngine) : (s.setMix e m).pending = s.pending := rfl

@[simp] theorem State.lane_setMix (s : State) (e : MixId) (m : MixEngine) (i : LaneId) :
    (s.setMix e m).lane i = s.lane i := rfl

@[simp] theorem State.mixEng_setMix_same (s : State) (e : MixId) (m : MixEngine) : (s.setMix e m).mixEng e = m := by
  simp [State.mixEng, State.setMix, Vector.get_eq_getElem]

@[simp] theorem State.mixEng_setMix_ne (s : State) {e e' : MixId} (m : MixEngine) (h : e' ≠ e) :
    (s.setMix e m).mixEng e' = s.mixEng e' := by
  have h' : e.val ≠ e'.val := fun q => h (Fin.ext q.symm)
  simp [State.mixEng, State.setMix, Vector.get_eq_getElem, h']

theorem State.mixEng_setMix (s : State) (e e' : MixId) (m : MixEngine) :
    (s.setMix e m).mixEng e' = if e' = e then m else s.mixEng e' := by
  by_cases h : e' = e
  · subst h; simp
  · simp [h]

/-! ## releaseMix -/

@[simp] theorem State.releaseMix_lanes (s : State) (e : MixId) : (s.releaseMix e).lanes = s.lanes := rfl
@[simp] theorem State.releaseMix_cueFree (s : State) (e : MixId) : (s.releaseMix e).cueFree = s.cueFree := rfl
@[simp] theorem State.releaseMix_clipFree (s : State) (e : MixId) : (s.releaseMix e).clipFree = s.clipFree := rfl
@[simp] theorem State.releaseMix_timing (s : State) (e : MixId) : (s.releaseMix e).timing = s.timing := rfl
@[simp] theorem State.releaseMix_mixPtr (s : State) (e : MixId) : (s.releaseMix e).mixPtr = s.mixPtr := rfl
@[simp] theorem State.releaseMix_pend (s : State) (e : MixId) : (s.releaseMix e).pend = s.pend := rfl
@[simp] theorem State.releaseMix_mask (s : State) (e : MixId) : (s.releaseMix e).mask = s.mask := rfl
@[simp] theorem State.releaseMix_dirBase (s : State) (e : MixId) : (s.releaseMix e).dirBase = s.dirBase := rfl
@[simp] theorem State.releaseMix_port (s : State) (e : MixId) : (s.releaseMix e).port = s.port := rfl
@[simp] theorem State.releaseMix_dev (s : State) (e : MixId) : (s.releaseMix e).dev = s.dev := rfl
@[simp] theorem State.releaseMix_bus (s : State) (e : MixId) : (s.releaseMix e).bus = s.bus := rfl
@[simp] theorem State.releaseMix_wire (s : State) (e : MixId) : (s.releaseMix e).wire = s.wire := rfl
@[simp] theorem State.releaseMix_msiAsked (s : State) (e : MixId) : (s.releaseMix e).msiAsked = s.msiAsked := rfl
@[simp] theorem State.releaseMix_freeCtr (s : State) (e : MixId) : (s.releaseMix e).freeCtr = s.freeCtr := rfl
@[simp] theorem State.releaseMix_pending (s : State) (e : MixId) : (s.releaseMix e).pending = s.pending := rfl

@[simp] theorem State.lane_releaseMix (s : State) (e : MixId) (i : LaneId) : (s.releaseMix e).lane i = s.lane i := rfl

@[simp] theorem State.mixEng_releaseMix_same (s : State) (e : MixId) : (s.releaseMix e).mixEng e = MixEngine.reset := by
  simp [State.releaseMix]

@[simp] theorem State.mixEng_releaseMix_ne (s : State) {e e' : MixId} (h : e' ≠ e) :
    (s.releaseMix e).mixEng e' = s.mixEng e' := by simp [State.releaseMix, h]

/-! ## freeCues -/

@[simp] theorem State.freeCues_lanes (s : State) (n : Nat) : (s.freeCues n).lanes = s.lanes := rfl
@[simp] theorem State.freeCues_clipFree (s : State) (n : Nat) : (s.freeCues n).clipFree = s.clipFree := rfl
@[simp] theorem State.freeCues_timing (s : State) (n : Nat) : (s.freeCues n).timing = s.timing := rfl
@[simp] theorem State.freeCues_mix (s : State) (n : Nat) : (s.freeCues n).mix = s.mix := rfl
@[simp] theorem State.freeCues_mixPtr (s : State) (n : Nat) : (s.freeCues n).mixPtr = s.mixPtr := rfl
@[simp] theorem State.freeCues_pend (s : State) (n : Nat) : (s.freeCues n).pend = s.pend := rfl
@[simp] theorem State.freeCues_mask (s : State) (n : Nat) : (s.freeCues n).mask = s.mask := rfl
@[simp] theorem State.freeCues_dirBase (s : State) (n : Nat) : (s.freeCues n).dirBase = s.dirBase := rfl
@[simp] theorem State.freeCues_port (s : State) (n : Nat) : (s.freeCues n).port = s.port := rfl
@[simp] theorem State.freeCues_dev (s : State) (n : Nat) : (s.freeCues n).dev = s.dev := rfl
@[simp] theorem State.freeCues_bus (s : State) (n : Nat) : (s.freeCues n).bus = s.bus := rfl
@[simp] theorem State.freeCues_wire (s : State) (n : Nat) : (s.freeCues n).wire = s.wire := rfl
@[simp] theorem State.freeCues_msiAsked (s : State) (n : Nat) : (s.freeCues n).msiAsked = s.msiAsked := rfl
@[simp] theorem State.freeCues_freeCtr (s : State) (n : Nat) : (s.freeCues n).freeCtr = s.freeCtr := rfl
@[simp] theorem State.freeCues_pending (s : State) (n : Nat) : (s.freeCues n).pending = s.pending := rfl

@[simp] theorem State.freeCues_cueFree (s : State) (n : Nat) : (s.freeCues n).cueFree = s.cueFree + n := rfl
@[simp] theorem State.lane_freeCues (s : State) (n : Nat) (i : LaneId) : (s.freeCues n).lane i = s.lane i := rfl

/-! ## freeClips -/

@[simp] theorem State.freeClips_lanes (s : State) (n : Nat) : (s.freeClips n).lanes = s.lanes := rfl
@[simp] theorem State.freeClips_cueFree (s : State) (n : Nat) : (s.freeClips n).cueFree = s.cueFree := rfl
@[simp] theorem State.freeClips_timing (s : State) (n : Nat) : (s.freeClips n).timing = s.timing := rfl
@[simp] theorem State.freeClips_mix (s : State) (n : Nat) : (s.freeClips n).mix = s.mix := rfl
@[simp] theorem State.freeClips_mixPtr (s : State) (n : Nat) : (s.freeClips n).mixPtr = s.mixPtr := rfl
@[simp] theorem State.freeClips_pend (s : State) (n : Nat) : (s.freeClips n).pend = s.pend := rfl
@[simp] theorem State.freeClips_mask (s : State) (n : Nat) : (s.freeClips n).mask = s.mask := rfl
@[simp] theorem State.freeClips_dirBase (s : State) (n : Nat) : (s.freeClips n).dirBase = s.dirBase := rfl
@[simp] theorem State.freeClips_port (s : State) (n : Nat) : (s.freeClips n).port = s.port := rfl
@[simp] theorem State.freeClips_dev (s : State) (n : Nat) : (s.freeClips n).dev = s.dev := rfl
@[simp] theorem State.freeClips_bus (s : State) (n : Nat) : (s.freeClips n).bus = s.bus := rfl
@[simp] theorem State.freeClips_wire (s : State) (n : Nat) : (s.freeClips n).wire = s.wire := rfl
@[simp] theorem State.freeClips_msiAsked (s : State) (n : Nat) : (s.freeClips n).msiAsked = s.msiAsked := rfl
@[simp] theorem State.freeClips_freeCtr (s : State) (n : Nat) : (s.freeClips n).freeCtr = s.freeCtr := rfl
@[simp] theorem State.freeClips_pending (s : State) (n : Nat) : (s.freeClips n).pending = s.pending := rfl

@[simp] theorem State.freeClips_clipFree (s : State) (n : Nat) : (s.freeClips n).clipFree = s.clipFree + n := rfl
@[simp] theorem State.lane_freeClips (s : State) (n : Nat) (i : LaneId) : (s.freeClips n).lane i = s.lane i := rfl

/-! ## Mix engines and lanes do not meet -/

@[simp] theorem State.mixEng_setLane (s : State) (i : LaneId) (l : Lane) (e : MixId) :
    (s.setLane i l).mixEng e = s.mixEng e := rfl
@[simp] theorem State.mixEng_modLane (s : State) (i : LaneId) (f : Lane → Lane) (e : MixId) :
    (s.modLane i f).mixEng e = s.mixEng e := rfl
@[simp] theorem State.mixEng_put (s : State) (w : LinkWrite) (e : MixId) : (s.put w).mixEng e = s.mixEng e := rfl
@[simp] theorem State.hold_setLane (s : State) (i : LaneId) (l : Lane) : (s.setLane i l).hold = s.hold := rfl
@[simp] theorem State.hold_modLane (s : State) (i : LaneId) (f : Lane → Lane) : (s.modLane i f).hold = s.hold := rfl
@[simp] theorem State.hold_put (s : State) (w : LinkWrite) : (s.put w).hold = s.hold := rfl
@[simp] theorem State.hold_releaseTiming (s : State) : s.releaseTiming.hold = s.hold := rfl
@[simp] theorem State.hold_releaseMix (s : State) (e : MixId) : (s.releaseMix e).hold = s.hold := rfl
@[simp] theorem State.mixEng_releaseTiming (s : State) (e : MixId) : s.releaseTiming.mixEng e = s.mixEng e := rfl
@[simp] theorem State.mixEng_freeCues (s : State) (n : Nat) (e : MixId) : (s.freeCues n).mixEng e = s.mixEng e := rfl
@[simp] theorem State.mixEng_freeClips (s : State) (n : Nat) (e : MixId) : (s.freeClips n).mixEng e = s.mixEng e := rfl
@[simp] theorem State.hold_freeCues (s : State) (n : Nat) : (s.freeCues n).hold = s.hold := rfl
@[simp] theorem State.hold_freeClips (s : State) (n : Nat) : (s.freeClips n).hold = s.hold := rfl

/-! ## Lane updates -/

@[simp] theorem Lane.withEx_cur (l : Lane) (f : ExecState → ExecState) :
    (l.withEx f).cur = l.cur.map (fun c => c.withEx f) := rfl
@[simp] theorem Lane.credit_cur (l : Lane) (ns : List NoteKind) :
    (l.credit ns).cur = l.cur.map (fun c => c.withEx (fun x => x.mark ns)) := rfl
@[simp] theorem Lane.credit_counters (l : Lane) (ns : List NoteKind) :
    (l.credit ns).counters = countAll l.counters ns := rfl
@[simp] theorem Lane.withEx_state (l : Lane) (f : ExecState → ExecState) : (l.withEx f).state = l.state := rfl
@[simp] theorem Lane.withEx_kind (l : Lane) (f : ExecState → ExecState) : (l.withEx f).kind = l.kind := rfl
@[simp] theorem Lane.withEx_par (l : Lane) (f : ExecState → ExecState) : (l.withEx f).par = l.par := rfl
@[simp] theorem Lane.withEx_next (l : Lane) (f : ExecState → ExecState) : (l.withEx f).next = l.next := rfl
@[simp] theorem Lane.withEx_contPending (l : Lane) (f : ExecState → ExecState) : (l.withEx f).contPending = l.contPending := rfl
@[simp] theorem Lane.withEx_haltReason (l : Lane) (f : ExecState → ExecState) : (l.withEx f).haltReason = l.haltReason := rfl
@[simp] theorem Lane.withEx_restLast (l : Lane) (f : ExecState → ExecState) : (l.withEx f).restLast = l.restLast := rfl
@[simp] theorem Lane.withEx_store (l : Lane) (f : ExecState → ExecState) : (l.withEx f).store = l.store := rfl
@[simp] theorem Lane.withEx_lastStart (l : Lane) (f : ExecState → ExecState) : (l.withEx f).lastStart = l.lastStart := rfl
@[simp] theorem Lane.withEx_nextSeg (l : Lane) (f : ExecState → ExecState) : (l.withEx f).nextSeg = l.nextSeg := rfl
@[simp] theorem Lane.withEx_intake (l : Lane) (f : ExecState → ExecState) : (l.withEx f).intake = l.intake := rfl
@[simp] theorem Lane.withEx_overrun (l : Lane) (f : ExecState → ExecState) : (l.withEx f).overrun = l.overrun := rfl
@[simp] theorem Lane.withEx_table (l : Lane) (f : ExecState → ExecState) : (l.withEx f).table = l.table := rfl
@[simp] theorem Lane.withEx_mixPos (l : Lane) (f : ExecState → ExecState) : (l.withEx f).mixPos = l.mixPos := rfl
@[simp] theorem Lane.withEx_base (l : Lane) (f : ExecState → ExecState) : (l.withEx f).base = l.base := rfl
@[simp] theorem Lane.withEx_counters (l : Lane) (f : ExecState → ExecState) : (l.withEx f).counters = l.counters := rfl
@[simp] theorem Lane.withEx_segTotal (l : Lane) (f : ExecState → ExecState) : (l.withEx f).segTotal = l.segTotal := rfl
@[simp] theorem Lane.withEx_frmTotal (l : Lane) (f : ExecState → ExecState) : (l.withEx f).frmTotal = l.frmTotal := rfl
@[simp] theorem Lane.withEx_io (l : Lane) (f : ExecState → ExecState) : (l.withEx f).io = l.io := rfl
@[simp] theorem Lane.withEx_waitAct (l : Lane) (f : ExecState → ExecState) : (l.withEx f).waitAct = l.waitAct := rfl
@[simp] theorem Lane.withEx_gate (l : Lane) (f : ExecState → ExecState) : (l.withEx f).gate = l.gate := rfl
@[simp] theorem Lane.withEx_pf (l : Lane) (f : ExecState → ExecState) : (l.withEx f).pf = l.pf := rfl
@[simp] theorem Lane.withEx_deferred (l : Lane) (f : ExecState → ExecState) : (l.withEx f).deferred = l.deferred := rfl
@[simp] theorem Lane.withEx_slot (l : Lane) (f : ExecState → ExecState) : (l.withEx f).slot = l.slot := rfl
@[simp] theorem Lane.credit_state (l : Lane) (ns : List NoteKind) : (l.credit ns).state = l.state := rfl
@[simp] theorem Lane.credit_kind (l : Lane) (ns : List NoteKind) : (l.credit ns).kind = l.kind := rfl
@[simp] theorem Lane.credit_par (l : Lane) (ns : List NoteKind) : (l.credit ns).par = l.par := rfl
@[simp] theorem Lane.credit_next (l : Lane) (ns : List NoteKind) : (l.credit ns).next = l.next := rfl
@[simp] theorem Lane.credit_contPending (l : Lane) (ns : List NoteKind) : (l.credit ns).contPending = l.contPending := rfl
@[simp] theorem Lane.credit_haltReason (l : Lane) (ns : List NoteKind) : (l.credit ns).haltReason = l.haltReason := rfl
@[simp] theorem Lane.credit_restLast (l : Lane) (ns : List NoteKind) : (l.credit ns).restLast = l.restLast := rfl
@[simp] theorem Lane.credit_store (l : Lane) (ns : List NoteKind) : (l.credit ns).store = l.store := rfl
@[simp] theorem Lane.credit_lastStart (l : Lane) (ns : List NoteKind) : (l.credit ns).lastStart = l.lastStart := rfl
@[simp] theorem Lane.credit_nextSeg (l : Lane) (ns : List NoteKind) : (l.credit ns).nextSeg = l.nextSeg := rfl
@[simp] theorem Lane.credit_intake (l : Lane) (ns : List NoteKind) : (l.credit ns).intake = l.intake := rfl
@[simp] theorem Lane.credit_overrun (l : Lane) (ns : List NoteKind) : (l.credit ns).overrun = l.overrun := rfl
@[simp] theorem Lane.credit_table (l : Lane) (ns : List NoteKind) : (l.credit ns).table = l.table := rfl
@[simp] theorem Lane.credit_mixPos (l : Lane) (ns : List NoteKind) : (l.credit ns).mixPos = l.mixPos := rfl
@[simp] theorem Lane.credit_base (l : Lane) (ns : List NoteKind) : (l.credit ns).base = l.base := rfl
@[simp] theorem Lane.credit_segTotal (l : Lane) (ns : List NoteKind) : (l.credit ns).segTotal = l.segTotal := rfl
@[simp] theorem Lane.credit_frmTotal (l : Lane) (ns : List NoteKind) : (l.credit ns).frmTotal = l.frmTotal := rfl
@[simp] theorem Lane.credit_io (l : Lane) (ns : List NoteKind) : (l.credit ns).io = l.io := rfl
@[simp] theorem Lane.credit_waitAct (l : Lane) (ns : List NoteKind) : (l.credit ns).waitAct = l.waitAct := rfl
@[simp] theorem Lane.credit_gate (l : Lane) (ns : List NoteKind) : (l.credit ns).gate = l.gate := rfl
@[simp] theorem Lane.credit_pf (l : Lane) (ns : List NoteKind) : (l.credit ns).pf = l.pf := rfl
@[simp] theorem Lane.credit_deferred (l : Lane) (ns : List NoteKind) : (l.credit ns).deferred = l.deferred := rfl
@[simp] theorem Lane.credit_slot (l : Lane) (ns : List NoteKind) : (l.credit ns).slot = l.slot := rfl
@[simp] theorem Lane.stopWork_state (l : Lane) : l.stopWork.state = l.state := rfl
@[simp] theorem Lane.stopWork_kind (l : Lane) : l.stopWork.kind = l.kind := rfl
@[simp] theorem Lane.stopWork_par (l : Lane) : l.stopWork.par = l.par := rfl
@[simp] theorem Lane.stopWork_next (l : Lane) : l.stopWork.next = l.next := rfl
@[simp] theorem Lane.stopWork_contPending (l : Lane) : l.stopWork.contPending = l.contPending := rfl
@[simp] theorem Lane.stopWork_haltReason (l : Lane) : l.stopWork.haltReason = l.haltReason := rfl
@[simp] theorem Lane.stopWork_restLast (l : Lane) : l.stopWork.restLast = l.restLast := rfl
@[simp] theorem Lane.stopWork_store (l : Lane) : l.stopWork.store = l.store := rfl
@[simp] theorem Lane.stopWork_lastStart (l : Lane) : l.stopWork.lastStart = l.lastStart := rfl
@[simp] theorem Lane.stopWork_nextSeg (l : Lane) : l.stopWork.nextSeg = l.nextSeg := rfl
@[simp] theorem Lane.stopWork_table (l : Lane) : l.stopWork.table = l.table := rfl
@[simp] theorem Lane.stopWork_mixPos (l : Lane) : l.stopWork.mixPos = l.mixPos := rfl
@[simp] theorem Lane.stopWork_base (l : Lane) : l.stopWork.base = l.base := rfl
@[simp] theorem Lane.stopWork_counters (l : Lane) : l.stopWork.counters = l.counters := rfl
@[simp] theorem Lane.stopWork_segTotal (l : Lane) : l.stopWork.segTotal = l.segTotal := rfl
@[simp] theorem Lane.stopWork_frmTotal (l : Lane) : l.stopWork.frmTotal = l.frmTotal := rfl
@[simp] theorem Lane.stopWork_io (l : Lane) : l.stopWork.io = l.io := rfl
@[simp] theorem Lane.stopWork_waitAct (l : Lane) : l.stopWork.waitAct = l.waitAct := rfl
@[simp] theorem Lane.stopWork_deferred (l : Lane) : l.stopWork.deferred = l.deferred := rfl
@[simp] theorem Lane.stopWork_slot (l : Lane) : l.stopWork.slot = l.slot := rfl
@[simp] theorem Lane.stopWork_cur (l : Lane) : l.stopWork.cur = l.cur := rfl
@[simp] theorem Lane.stopWork_pf (l : Lane) : l.stopWork.pf = l.pf.discard := rfl
@[simp] theorem Lane.stopWork_intake (l : Lane) : l.stopWork.intake = [] := rfl
@[simp] theorem Lane.stopWork_gate (l : Lane) : l.stopWork.gate = l.gate.clear := rfl

/-! ## A result that was not written through (R154, R155) -/

/-- Of FAILED and HALTED no owed retirement is kept; any other result is owed. -/
theorem Record.unwritten_eq (c : Record) (r : RecResult) (acc : Bool) : c.unwritten r acc =
    if r.outcome = .failed ∨ r.outcome = .halted then { c with owed := none }
    else { c with owed := some { res := r, accepted := acc } } := by
  unfold Record.unwritten Record.owe
  cases r.outcome <;> rfl

@[simp] theorem Record.unwritten_addr (c : Record) (r : RecResult) (b : Bool) : (c.unwritten r b).addr = c.addr := by
  unfold Record.unwritten; split <;> rfl
@[simp] theorem Record.unwritten_hdr (c : Record) (r : RecResult) (b : Bool) : (c.unwritten r b).hdr = c.hdr := by
  unfold Record.unwritten; split <;> rfl
@[simp] theorem Record.unwritten_body (c : Record) (r : RecResult) (b : Bool) : (c.unwritten r b).body = c.body := by
  unfold Record.unwritten; split <;> rfl
@[simp] theorem Record.unwritten_ex (c : Record) (r : RecResult) (b : Bool) : (c.unwritten r b).ex = c.ex := by
  unfold Record.unwritten; split <;> rfl

/-! ## The drain of HOLD (R169) -/

/-- The Command Port delays HELD exactly while an INSPECT's read of the entry is outstanding. -/
theorem CmdPort.quiet_iff (p : CmdPort) : p.quiet = true ↔ ∀ j, p.job = some j → j.phase ≠ .entryRead := by
  unfold CmdPort.quiet
  cases p.job <;> simp

end Sys2Proof.Machine
end

