-- ==== Sys2Proof/Laws/Ops.lean ====
section
/-! SUPPORT. What each shared operation can do, said once. Every operation on lane i's reads, write sequences and
retirements changes lane i's context only; and in that context it leaves the track alone, unless a teardown ends. -/

namespace Sys2Proof.Machine

open Sys2Proof

/-! ## Operations that change one lane only -/

/-- `t` is `s` but for lane i's context. -/
def State.LaneOnly (i : LaneId) (s t : State) : Prop := t = s.setLane i (t.lane i)

theorem State.LaneOnly.refl (i : LaneId) (s : State) : State.LaneOnly i s s := by simp [State.LaneOnly]

theorem State.LaneOnly.setLane (i : LaneId) (s : State) (l : Lane) : State.LaneOnly i s (s.setLane i l) := by
  simp [State.LaneOnly]

theorem State.LaneOnly.modLane (i : LaneId) (s : State) (f : Lane → Lane) : State.LaneOnly i s (s.modLane i f) := by
  simp [State.LaneOnly, State.modLane]

theorem State.LaneOnly.trans {i : LaneId} {s t u : State} (h : State.LaneOnly i s t) (k : State.LaneOnly i t u) :
    State.LaneOnly i s u := by
  unfold State.LaneOnly at *
  rw [k, h]
  simp

theorem State.LaneOnly.lane_ne {i j : LaneId} {s t : State} (h : State.LaneOnly i s t) (hj : j ≠ i) :
    t.lane j = s.lane j := by
  rw [h]; simp [hj]

theorem State.LaneOnly.fields {i : LaneId} {s t : State} (h : State.LaneOnly i s t) :
    t.cueFree = s.cueFree ∧ t.clipFree = s.clipFree ∧ t.timing = s.timing ∧ t.mix = s.mix ∧ t.mixPtr = s.mixPtr
      ∧ t.pend = s.pend ∧ t.mask = s.mask ∧ t.dirBase = s.dirBase ∧ t.port = s.port ∧ t.dev = s.dev ∧ t.bus = s.bus
      ∧ t.wire = s.wire ∧ t.msiAsked = s.msiAsked ∧ t.freeCtr = s.freeCtr ∧ t.pending = s.pending := by
  rw [h]; simp

theorem State.laneOnly_startRead (s : State) (i : LaneId) (st : LaneState) (r : LaneRead) :
    State.LaneOnly i s (s.startRead i st r) := State.LaneOnly.modLane _ _ _

theorem State.laneOnly_resumeNow (s : State) (i : LaneId) : State.LaneOnly i s (s.resumeNow i) :=
  State.laneOnly_startRead _ _ _ _

theorem State.laneOnly_goOn (s : State) (i : LaneId) (k : Bool) : State.LaneOnly i s (s.goOn i k) := by
  unfold State.goOn
  split
  · exact State.LaneOnly.modLane _ _ _
  · exact State.laneOnly_startRead _ _ _ _

theorem State.laneOnly_finishSeq (s : State) (i : LaneId) (q : WriteSeq) (k : Bool) :
    State.LaneOnly i s (s.finishSeq i q k) := by
  unfold State.finishSeq
  repeat' split
  all_goals first
    | exact State.LaneOnly.modLane _ _ _
    | exact State.laneOnly_goOn _ _ _
    | exact State.LaneOnly.refl _ _

theorem State.laneOnly_handNotice (s : State) (i : LaneId) (q : WriteSeq) (n : Notice) :
    State.LaneOnly i s (s.handNotice i q n) := by
  unfold State.handNotice
  repeat' split
  · exact State.LaneOnly.refl _ _
  · exact State.LaneOnly.modLane _ _ _
  · exact (State.LaneOnly.modLane _ _ _).trans (State.laneOnly_finishSeq _ _ _ _)
  · exact State.LaneOnly.modLane _ _ _

theorem State.laneOnly_runSeq (s : State) (i : LaneId) : State.LaneOnly i s (s.runSeq i) := by
  unfold State.runSeq
  repeat' split
  all_goals first
    | exact State.LaneOnly.refl _ _
    | exact State.laneOnly_finishSeq _ _ _ _
    | exact State.laneOnly_handNotice _ _ _ _

theorem State.laneOnly_startSeq (s : State) (i : LaneId) (st : LaneState) (k : SeqKind) (steps : List SeqStep)
    (b : Bool) : State.LaneOnly i s (s.startSeq i st k steps b) :=
  (State.LaneOnly.modLane _ _ _).trans (State.laneOnly_runSeq _ _)

theorem State.laneOnly_popStep (s : State) (i : LaneId) (q : WriteSeq) : State.LaneOnly i s (s.popStep i q) :=
  (State.LaneOnly.modLane _ _ _).trans (State.laneOnly_runSeq _ _)

theorem State.laneOnly_retire (s : State) (i : LaneId) (o : RecOutcome) (w : Reason) :
    State.LaneOnly i s (s.retire i o w) := by
  unfold State.retire
  split
  · exact State.LaneOnly.refl _ _
  · exact (State.LaneOnly.modLane _ _ _).trans (State.laneOnly_startSeq _ _ _ _ _ _)

theorem State.laneOnly_retireDone (s : State) (i : LaneId) : State.LaneOnly i s (s.retireDone i) := by
  unfold State.retireDone
  split
  · exact State.LaneOnly.refl _ _
  · exact State.laneOnly_retire _ _ _ _

theorem State.laneOnly_retireOwed (s : State) (i : LaneId) (c : Record) (o : Owed) :
    State.LaneOnly i s (s.retireOwed i c o) :=
  (State.LaneOnly.modLane _ _ _).trans (State.laneOnly_startSeq _ _ _ _ _ _)

theorem State.laneOnly_failOwed (s : State) (i : LaneId) (c : Record) (o : Owed) (w : Reason) :
    State.LaneOnly i s (s.failOwed i c o w) :=
  (State.LaneOnly.modLane _ _ _).trans (State.laneOnly_startSeq _ _ _ _ _ _)

theorem State.laneOnly_failRecord (s : State) (i : LaneId) (w : Reason) : State.LaneOnly i s (s.failRecord i w) := by
  unfold State.failRecord
  repeat' split
  · exact State.LaneOnly.refl _ _
  · exact State.laneOnly_failOwed _ _ _ _ _
  · exact State.laneOnly_retire _ _ _ _

theorem State.laneOnly_entryHalt (s : State) (i : LaneId) (w : Reason) (a : Addr) :
    State.LaneOnly i s (s.entryHalt i w a) :=
  (State.LaneOnly.modLane _ _ _).trans (State.laneOnly_startSeq _ _ _ _ _ _)

theorem State.laneOnly_retireSkipped (s : State) (i : LaneId) (c : Record) :
    State.LaneOnly i s (s.retireSkipped i c) :=
  (State.LaneOnly.modLane _ _ _).trans (State.laneOnly_startSeq _ _ _ _ _ _)

theorem State.laneOnly_skipNow (s : State) (i : LaneId) : State.LaneOnly i s (s.skipNow i) := by
  unfold State.skipNow
  repeat' split
  · exact State.LaneOnly.refl _ _
  · exact State.laneOnly_startRead _ _ _ _
  · exact State.laneOnly_retireSkipped _ _ _

theorem State.laneOnly_prefetch (s : State) (i : LaneId) : State.LaneOnly i s (s.prefetch i) := by
  unfold State.prefetch
  repeat' split
  · exact State.LaneOnly.refl _ _
  · exact State.LaneOnly.modLane _ _ _
  · exact State.LaneOnly.refl _ _

theorem State.laneOnly_enqueue (s : State) (i : LaneId) : State.LaneOnly i s (s.enqueue i) :=
  State.LaneOnly.modLane _ _ _

theorem State.laneOnly_nextIntake (s : State) (i : LaneId) : State.LaneOnly i s (s.nextIntake i) := by
  unfold State.nextIntake
  split
  · exact State.laneOnly_failRecord _ _ _
  · exact (State.LaneOnly.modLane _ _ _).trans (State.laneOnly_startRead _ _ _ _)

theorem State.laneOnly_dropRead (s : State) (i : LaneId) : State.LaneOnly i s (s.dropRead i) :=
  State.LaneOnly.modLane _ _ _

theorem State.laneOnly_judgeHead (s : State) (i : LaneId) : State.LaneOnly i s (s.judgeHead i) := by
  unfold State.judgeHead
  repeat' split
  · exact State.laneOnly_enqueue _ _
  · exact State.laneOnly_failRecord _ _ _
  · exact State.LaneOnly.refl _ _
  · exact State.LaneOnly.refl _ _

theorem State.laneOnly_startGate (s : State) (i : LaneId) (c : Record) : State.LaneOnly i s (s.startGate i c) := by
  unfold State.startGate
  split
  · exact State.LaneOnly.modLane _ _ _
  · exact State.laneOnly_failRecord _ _ _

/-! ## What an operation on one lane leaves of its track -/

/-- The track of a lane: what only units, OPEN, CLOSE, the teardown and a reset change. -/
structure Lane.SameTrack (l m : Lane) : Prop where
  kind : m.kind = l.kind
  par : m.par = l.par
  store : m.store = l.store
  lastStart : m.lastStart = l.lastStart
  nextSeg : m.nextSeg = l.nextSeg
  table : m.table = l.table
  mixPos : m.mixPos = l.mixPos
  counters : m.counters = l.counters
  segTotal : m.segTotal = l.segTotal
  frmTotal : m.frmTotal = l.frmTotal

theorem Lane.SameTrack.refl (l : Lane) : Lane.SameTrack l l :=
  ⟨rfl, rfl, rfl, rfl, rfl, rfl, rfl, rfl, rfl, rfl⟩

theorem Lane.SameTrack.trans {l m n : Lane} (h : Lane.SameTrack l m) (k : Lane.SameTrack m n) : Lane.SameTrack l n :=
  ⟨k.kind.trans h.kind, k.par.trans h.par, k.store.trans h.store, k.lastStart.trans h.lastStart,
   k.nextSeg.trans h.nextSeg, k.table.trans h.table, k.mixPos.trans h.mixPos,
   k.counters.trans h.counters, k.segTotal.trans h.segTotal, k.frmTotal.trans h.frmTotal⟩

theorem State.startRead_track (s : State) (i : LaneId) (st : LaneState) (r : LaneRead) :
    Lane.SameTrack (s.lane i) ((s.startRead i st r).lane i) := by
  constructor <;> simp [State.startRead]

theorem State.goOn_track (s : State) (i : LaneId) (k : Bool) :
    Lane.SameTrack (s.lane i) ((s.goOn i k).lane i) := by
  unfold State.goOn
  split
  · constructor <;> simp
  · exact State.startRead_track _ _ _ _

/-- The end of a sequence keeps the track, or it is the end of a teardown. -/
theorem State.finishSeq_cases (s : State) (i : LaneId) (q : WriteSeq) (k : Bool) :
    (q.kind = .teardown ∧ (s.finishSeq i q k).lane i = (s.lane i).tornDown q.failed)
      ∨ (q.kind ≠ .teardown ∧ Lane.SameTrack (s.lane i) ((s.finishSeq i q k).lane i)) := by
  unfold State.finishSeq
  by_cases h : q.kind = .teardown
  · left; simp [h]
  · right
    refine ⟨h, ?_⟩
    rw [if_neg h]
    split
    · constructor <;> simp
    · split
      · split
        · exact State.goOn_track _ _ _
        · constructor <;> simp
      · exact State.goOn_track _ _ _
      · split
        · constructor <;> simp
        · exact State.goOn_track _ _ _
      · constructor <;> simp
      · constructor <;> simp
      · exact Lane.SameTrack.refl _

/-- The hand-off of a notice that is not a teardown's keeps the track. -/
theorem State.handNotice_track (s : State) (i : LaneId) (q : WriteSeq) (n : Notice) :
    Lane.SameTrack (s.lane i) ((s.handNotice i q n).lane i) := by
  unfold State.handNotice
  split
  · exact Lane.SameTrack.refl _
  · split
    · constructor <;> simp
    · split
      · rename_i hk _
        rcases State.finishSeq_cases (s.modLane i (fun l => { l with deferred := some n })) i q true with h | h
        · exact absurd h.1 hk
        · refine Lane.SameTrack.trans ?_ h.2
          constructor <;> simp
      · constructor <;> simp

/-- A sequence that goes on keeps the track, unless it is a teardown with no step left. -/
theorem State.runSeq_cases (s : State) (i : LaneId) :
    (∃ q, (s.lane i).io = .seq q ∧ q.kind = .teardown ∧ q.begun = true ∧ q.steps = []
        ∧ (s.runSeq i).lane i = (s.lane i).tornDown q.failed)
      ∨ Lane.SameTrack (s.lane i) ((s.runSeq i).lane i) := by
  unfold State.runSeq
  split
  · rename_i q hq
    split
    · rename_i hb
      split
      · rename_i hs
        rcases State.finishSeq_cases s i q false with h | h
        · exact .inl ⟨q, hq, h.1, hb, hs, h.2⟩
        · exact .inr h.2
      · exact .inr (State.handNotice_track _ _ _ _)
      · exact .inr (Lane.SameTrack.refl _)
    · exact .inr (Lane.SameTrack.refl _)
  · exact .inr (Lane.SameTrack.refl _)
  · exact .inr (Lane.SameTrack.refl _)

/-- A new sequence that is no teardown keeps the track. -/
theorem State.startSeq_track (s : State) (i : LaneId) (st : LaneState) (k : SeqKind) (steps : List SeqStep) (b : Bool)
    (hk : k ≠ .teardown) : Lane.SameTrack (s.lane i) ((s.startSeq i st k steps b).lane i) := by
  unfold State.startSeq
  rcases State.runSeq_cases (s.modLane i (fun l =>
    { l with state := st, io := .seq { kind := k, steps := steps, begun := b, failed := false } })) i with h | h
  · obtain ⟨q, hq, hk', -⟩ := h
    simp at hq
    subst hq
    exact absurd hk' hk
  · refine Lane.SameTrack.trans ?_ h
    constructor <;> simp

theorem State.retire_track (s : State) (i : LaneId) (o : RecOutcome) (w : Reason) :
    Lane.SameTrack (s.lane i) ((s.retire i o w).lane i) := by
  unfold State.retire
  split
  · exact Lane.SameTrack.refl _
  · refine Lane.SameTrack.trans ?_ (State.startSeq_track _ _ _ _ _ _ (by simp))
    constructor <;> simp

theorem State.retireDone_track (s : State) (i : LaneId) : Lane.SameTrack (s.lane i) ((s.retireDone i).lane i) := by
  unfold State.retireDone
  split
  · exact Lane.SameTrack.refl _
  · exact State.retire_track _ _ _ _

theorem State.retireOwed_track (s : State) (i : LaneId) (c : Record) (o : Owed) :
    Lane.SameTrack (s.lane i) ((s.retireOwed i c o).lane i) := by
  refine Lane.SameTrack.trans ?_ (State.startSeq_track _ _ _ _ _ _ (by simp))
  constructor <;> simp

theorem State.failRecord_track (s : State) (i : LaneId) (w : Reason) :
    Lane.SameTrack (s.lane i) ((s.failRecord i w).lane i) := by
  unfold State.failRecord
  repeat' split
  · exact Lane.SameTrack.refl _
  · refine Lane.SameTrack.trans ?_ (State.startSeq_track _ _ _ _ _ _ (by simp))
    constructor <;> simp
  · exact State.retire_track _ _ _ _

theorem State.nextIntake_track (s : State) (i : LaneId) : Lane.SameTrack (s.lane i) ((s.nextIntake i).lane i) := by
  unfold State.nextIntake
  split
  · exact State.failRecord_track _ _ _
  · refine Lane.SameTrack.trans ?_ (State.startRead_track _ _ _ _)
    constructor <;> simp

theorem State.entryHalt_track (s : State) (i : LaneId) (w : Reason) (a : Addr) :
    Lane.SameTrack (s.lane i) ((s.entryHalt i w a).lane i) := by
  refine Lane.SameTrack.trans ?_ (State.startSeq_track _ _ _ _ _ _ (by simp))
  constructor <;> simp

theorem State.retireSkipped_track (s : State) (i : LaneId) (c : Record) :
    Lane.SameTrack (s.lane i) ((s.retireSkipped i c).lane i) := by
  refine Lane.SameTrack.trans ?_ (State.startSeq_track _ _ _ _ _ _ (by simp))
  constructor <;> simp

theorem State.skipNow_track (s : State) (i : LaneId) : Lane.SameTrack (s.lane i) ((s.skipNow i).lane i) := by
  unfold State.skipNow
  repeat' split
  · exact Lane.SameTrack.refl _
  · exact State.startRead_track _ _ _ _
  · exact State.retireSkipped_track _ _ _

theorem State.prefetch_track (s : State) (i : LaneId) : Lane.SameTrack (s.lane i) ((s.prefetch i).lane i) := by
  unfold State.prefetch
  repeat' split
  · exact Lane.SameTrack.refl _
  · constructor <;> simp
  · exact Lane.SameTrack.refl _

theorem State.judgeHead_track (s : State) (i : LaneId) : Lane.SameTrack (s.lane i) ((s.judgeHead i).lane i) := by
  unfold State.judgeHead State.enqueue
  repeat' split
  · constructor <;> simp
  · exact State.failRecord_track _ _ _
  · exact Lane.SameTrack.refl _
  · exact Lane.SameTrack.refl _

end Sys2Proof.Machine
end

