-- ==== Sys2Proof/Laws/Steps.lean ====
section
/-! SUPPORT. What one command can do to a lane's track and to the pools: the inversion lemma that the invariants about
stores, tables, counters and pools cite. -/

namespace Sys2Proof.Machine

open Sys2Proof

/-! ## The ways a lane's track can change -/

/-- What a step from s to t does to lane i's track and to the two free counts. -/
inductive TrackStep (s t : State) (i : LaneId) : Prop where
  | same (h : Lane.SameTrack (s.lane i) (t.lane i)) (hc : t.cueFree = s.cueFree) (hd : t.clipFree = s.clipFree)
  | torn (q : WriteSeq) (hio : (s.lane i).io = .seq q) (hq : q.kind = .teardown)
      (h : Lane.SameTrack Lane.reset (t.lane i)) (hc : t.cueFree = s.cueFree) (hd : t.clipFree = s.clipFree)
  | gaveBack (h : Lane.SameTrack (s.lane i).giveBack (t.lane i))
      (hc : t.cueFree = s.cueFree + (s.lane i).store.length) (hd : t.clipFree = s.clipFree + (s.lane i).table.length)
  | opened (b : OpenBody) (k : LaneKind) (p : Params) (hb : b.accepted = some (k, p))
      (h : Lane.SameTrack ((s.lane i).opened k p) (t.lane i))
      (hc : t.cueFree = s.cueFree + (s.lane i).store.length) (hd : t.clipFree = s.clipFree + (s.lane i).table.length)
  | closed (notes : List NoteKind) (h : Lane.SameTrack ((s.lane i).closed.credit notes) (t.lane i))
      (hc : t.cueFree = s.cueFree + (s.lane i).store.length) (hd : t.clipFree = s.clipFree + (s.lane i).table.length)
  | cues (c : Record) (w : CueWork) (hw : w = cueUnit (s.lane i) c.ex s.cueFree ((s.lane i).batch c))
      (h : Lane.SameTrack ((s.lane i).afterCues w) (t.lane i)) (hc : t.cueFree = w.free) (hd : t.clipFree = s.clipFree)
  | clipDropped (notes : List NoteKind) (h : Lane.SameTrack ((s.lane i).afterClip (s.lane i).table notes) (t.lane i))
      (hc : t.cueFree = s.cueFree) (hd : t.clipFree = s.clipFree)
  | clipInserted (b : ClipBody) (e : ClipEntry) (notes : List NoteKind)
      (hu : clipUnit (s.lane i) b s.clipFree = .inserted e notes)
      (h : Lane.SameTrack ((s.lane i).afterClip (insertClip e (s.lane i).table) notes) (t.lane i))
      (hc : t.cueFree = s.cueFree) (hd : t.clipFree = s.clipFree - 1)
  | segment (size : Nat) (diff : Option Nat) (h : Lane.SameTrack ((s.lane i).completeSegment size diff) (t.lane i))
      (hc : t.cueFree = s.cueFree + (s.lane i).freedBySegment) (hd : t.clipFree = s.clipFree)
  | block (k : Nat) (notes : List NoteKind) (h : Lane.SameTrack ((s.lane i).completeBlock k notes) (t.lane i))
      (hc : t.cueFree = s.cueFree) (hd : t.clipFree = s.clipFree + (s.lane i).freedByBlock k)

/-- A lane's track is kept, or its teardown ends. -/
def Lane.Kept (l m : Lane) : Prop :=
  Lane.SameTrack l m ∨ ∃ q, l.io = .seq q ∧ q.kind = .teardown ∧ Lane.SameTrack Lane.reset m

/-- A step from s to t changes at most one lane's track, in one of those ways; every other lane's is kept. -/
def OneTrack (s t : State) : Prop := ∃ i, (∀ j, j ≠ i → Lane.Kept (s.lane j) (t.lane j)) ∧ TrackStep s t i

/-! ## Building and following such steps -/

theorem State.LaneOnly.others {i : LaneId} {s t : State} (h : State.LaneOnly i s t) :
    ∀ j, j ≠ i → Lane.Kept (s.lane j) (t.lane j) := by
  intro j hj
  rw [h.lane_ne hj]
  exact .inl (Lane.SameTrack.refl _)

theorem OneTrack.refl (s : State) : OneTrack s s :=
  ⟨0, fun _ _ => .inl (Lane.SameTrack.refl _), .same (Lane.SameTrack.refl _) rfl rfl⟩

/-- An operation on one lane that keeps its track. -/
theorem OneTrack.lane {i : LaneId} {s t : State} (h : State.LaneOnly i s t)
    (k : Lane.SameTrack (s.lane i) (t.lane i)) : OneTrack s t :=
  ⟨i, h.others, .same k h.fields.1 h.fields.2.1⟩

/-- Every lane's track and both pools are kept. -/
theorem OneTrack.keep {s t : State} (h : ∀ j, Lane.Kept (s.lane j) (t.lane j)) (hc : t.cueFree = s.cueFree)
    (hd : t.clipFree = s.clipFree) : OneTrack s t := by
  refine ⟨0, fun j _ => h j, ?_⟩
  rcases h 0 with h | ⟨q, hq, hk, h⟩
  · exact .same h hc hd
  · exact .torn q hq hk h hc hd

/-- A way to change a track, followed by an operation on the same lane that keeps it. -/
theorem TrackStep.follow {s t u : State} {i : LaneId} (h : TrackStep s t i) (k : Lane.SameTrack (t.lane i) (u.lane i))
    (hc' : u.cueFree = t.cueFree) (hd' : u.clipFree = t.clipFree) : TrackStep s u i := by
  cases h with
  | same h hc hd => exact .same (h.trans k) (hc'.trans hc) (hd'.trans hd)
  | torn q hio hq h hc hd => exact .torn q hio hq (h.trans k) (hc'.trans hc) (hd'.trans hd)
  | gaveBack h hc hd => exact .gaveBack (h.trans k) (hc'.trans hc) (hd'.trans hd)
  | opened b kd p hb h hc hd => exact .opened b kd p hb (h.trans k) (hc'.trans hc) (hd'.trans hd)
  | closed n h hc hd => exact .closed n (h.trans k) (hc'.trans hc) (hd'.trans hd)
  | cues c w hw h hc hd => exact .cues c w hw (h.trans k) (hc'.trans hc) (hd'.trans hd)
  | clipDropped n h hc hd => exact .clipDropped n (h.trans k) (hc'.trans hc) (hd'.trans hd)
  | clipInserted b e n hu h hc hd => exact .clipInserted b e n hu (h.trans k) (hc'.trans hc) (hd'.trans hd)
  | segment z d h hc hd => exact .segment z d (h.trans k) (hc'.trans hc) (hd'.trans hd)
  | block z n h hc hd => exact .block z n (h.trans k) (hc'.trans hc) (hd'.trans hd)

/-- The same, for the whole step. -/
theorem OneTrack.follow {s t u : State} {i : LaneId} (ho : ∀ j, j ≠ i → Lane.Kept (s.lane j) (t.lane j))
    (h : TrackStep s t i) (l : State.LaneOnly i t u) (k : Lane.SameTrack (t.lane i) (u.lane i)) : OneTrack s u :=
  ⟨i, fun j hj => by rw [l.lane_ne hj]; exact ho j hj, h.follow k l.fields.1 l.fields.2.1⟩

/-- A step that starts by changing nothing of any track. -/
theorem OneTrack.after {s t u : State} (h : ∀ j, t.lane j = s.lane j) (hc : t.cueFree = s.cueFree)
    (hd : t.clipFree = s.clipFree) (k : OneTrack t u) : OneTrack s u := by
  obtain ⟨i, ho, hs⟩ := k
  refine ⟨i, fun j hj => h j ▸ ho j hj, ?_⟩
  cases hs with
  | same k hc' hd' => exact .same (h i ▸ k) (hc'.trans hc) (hd'.trans hd)
  | torn q hio hq k hc' hd' => exact .torn q (h i ▸ hio) hq k (hc'.trans hc) (hd'.trans hd)
  | gaveBack k hc' hd' => exact .gaveBack (h i ▸ k) (by rw [hc', hc, h i]) (by rw [hd', hd, h i])
  | opened b kd p hb k hc' hd' => exact .opened b kd p hb (h i ▸ k) (by rw [hc', hc, h i]) (by rw [hd', hd, h i])
  | closed n k hc' hd' => exact .closed n (h i ▸ k) (by rw [hc', hc, h i]) (by rw [hd', hd, h i])
  | cues c w hw k hc' hd' => exact .cues c w (by rw [hw, hc, h i]) (h i ▸ k) hc' (hd'.trans hd)
  | clipDropped n k hc' hd' => exact .clipDropped n (h i ▸ k) (hc'.trans hc) (hd'.trans hd)
  | clipInserted b e n hu k hc' hd' => exact .clipInserted b e n (by rw [← h i, ← hd]; exact hu) (h i ▸ k) (hc'.trans hc) (by rw [hd', hd])
  | segment z d k hc' hd' => exact .segment z d (h i ▸ k) (by rw [hc', hc, h i]) (hd'.trans hd)
  | block z n k hc' hd' => exact .block z n (h i ▸ k) (hc'.trans hc) (by rw [hd', hd, h i])

/-! ## Write sequences that may end a teardown -/

theorem State.runSeq_oneTrack (s : State) (i : LaneId) : OneTrack s (s.runSeq i) := by
  have hl := State.laneOnly_runSeq s i
  rcases State.runSeq_cases s i with h | h
  · obtain ⟨q, hq, hk, -, -, ht⟩ := h
    refine ⟨i, hl.others, .torn q hq hk ?_ hl.fields.1 hl.fields.2.1⟩
    rw [ht]
    constructor <;> rfl
  · exact OneTrack.lane hl h

theorem State.finishSeq_oneTrack (s : State) (i : LaneId) (q : WriteSeq) (k : Bool) (hq : (s.lane i).io = .seq q) :
    OneTrack s (s.finishSeq i q k) := by
  have hl := State.laneOnly_finishSeq s i q k
  rcases State.finishSeq_cases s i q k with h | h
  · refine ⟨i, hl.others, .torn q hq h.1 ?_ hl.fields.1 hl.fields.2.1⟩
    rw [h.2]
    constructor <;> rfl
  · exact OneTrack.lane hl h.2

/-- A step that first changes lane i without its track, then goes on with a sequence that was there all along. -/
theorem OneTrack.afterLane {s t u : State} {i : LaneId} (l : State.LaneOnly i s t)
    (k : Lane.SameTrack (s.lane i) (t.lane i)) (hq : ∀ q, (t.lane i).io = .seq q → q.kind = .teardown →
      ∃ q', (s.lane i).io = .seq q' ∧ q'.kind = .teardown) (h : State.LaneOnly i t u)
    (hu : Lane.SameTrack (t.lane i) (u.lane i)
      ∨ ∃ q, (t.lane i).io = .seq q ∧ q.kind = .teardown ∧ Lane.SameTrack Lane.reset (u.lane i)) : OneTrack s u := by
  have lu := l.trans h
  rcases hu with hu | ⟨q, hio, hk, hu⟩
  · exact OneTrack.lane lu (k.trans hu)
  · obtain ⟨q', hio', hk'⟩ := hq q hio hk
    exact ⟨i, lu.others, .torn q' hio' hk' hu lu.fields.1 lu.fields.2.1⟩

theorem State.runSeq_ends (s : State) (i : LaneId) :
    Lane.SameTrack (s.lane i) ((s.runSeq i).lane i)
      ∨ ∃ q, (s.lane i).io = .seq q ∧ q.kind = .teardown ∧ Lane.SameTrack Lane.reset ((s.runSeq i).lane i) := by
  rcases State.runSeq_cases s i with h | h
  · obtain ⟨q, hq, hk, -, -, ht⟩ := h
    refine .inr ⟨q, hq, hk, ?_⟩
    rw [ht]
    constructor <;> rfl
  · exact .inl h

theorem State.popStep_oneTrack (s : State) (i : LaneId) (q : WriteSeq) (hq : (s.lane i).io = .seq q) (q2 : WriteSeq)
    (h2 : q2.kind = q.kind) : OneTrack s (s.popStep i q2) := by
  refine OneTrack.afterLane (i := i) (State.LaneOnly.modLane i s _) ?_ ?_ (State.laneOnly_runSeq _ _)
    (State.runSeq_ends _ _)
  · constructor <;> simp
  · intro q' h' hk
    simp at h'
    subst h'
    exact ⟨q, hq, by rw [← h2]; exact hk⟩

theorem State.setLane_only (s : State) (i : LaneId) (l : Lane) : State.LaneOnly i s (s.setLane i l) :=
  State.LaneOnly.setLane i s l

/-- A lane update that keeps the track, followed by an operation that keeps it. -/
theorem OneTrack.modThen {s u : State} {i : LaneId} (f : Lane → Lane) (hf : Lane.SameTrack (s.lane i) (f (s.lane i)))
    (h : State.LaneOnly i (s.modLane i f) u) (k : Lane.SameTrack ((s.modLane i f).lane i) (u.lane i)) : OneTrack s u := by
  refine OneTrack.lane ((State.LaneOnly.modLane i s f).trans h) (Lane.SameTrack.trans ?_ k)
  simpa using hf

theorem OneTrack.mod (s : State) (i : LaneId) (f : Lane → Lane) (hf : Lane.SameTrack (s.lane i) (f (s.lane i))) :
    OneTrack s (s.modLane i f) :=
  OneTrack.modThen f hf (State.LaneOnly.refl _ _) (Lane.SameTrack.refl _)

/-! ## Records -/

/-- What carrying out a record does to lane i: its track is kept, or the lane is opened, or it is closed. -/
inductive RecStep (i : LaneId) (s t : State) : Prop where
  | same (ho : ∀ j, j ≠ i → t.lane j = s.lane j) (h : Lane.SameTrack (s.lane i) (t.lane i)) (hc : t.cueFree = s.cueFree)
      (hd : t.clipFree = s.clipFree)
  | opened (b : OpenBody) (k : LaneKind) (p : Params) (hb : b.accepted = some (k, p))
      (ho : ∀ j, j ≠ i → t.lane j = s.lane j) (h : Lane.SameTrack ((s.lane i).opened k p) (t.lane i))
      (hc : t.cueFree = s.cueFree + (s.lane i).store.length) (hd : t.clipFree = s.clipFree + (s.lane i).table.length)
  | closed (notes : List NoteKind) (ho : ∀ j, j ≠ i → t.lane j = s.lane j)
      (h : Lane.SameTrack ((s.lane i).closed.credit notes) (t.lane i))
      (hc : t.cueFree = s.cueFree + (s.lane i).store.length) (hd : t.clipFree = s.clipFree + (s.lane i).table.length)

theorem RecStep.oneTrack {i : LaneId} {s t : State} (h : RecStep i s t) : OneTrack s t := by
  have o {s t : State} (ho : ∀ j, j ≠ i → t.lane j = s.lane j) :
      ∀ j, j ≠ i → Lane.Kept (s.lane j) (t.lane j) := fun j hj => .inl (ho j hj ▸ Lane.SameTrack.refl _)
  cases h with
  | same ho h hc hd => exact ⟨i, o ho, .same h hc hd⟩
  | opened b k p hb ho h hc hd => exact ⟨i, o ho, .opened b k p hb h hc hd⟩
  | closed n ho h hc hd => exact ⟨i, o ho, .closed n h hc hd⟩

theorem RecStep.lane {i : LaneId} {s t : State} (h : State.LaneOnly i s t)
    (k : Lane.SameTrack (s.lane i) (t.lane i)) : RecStep i s t :=
  .same (fun _ hj => h.lane_ne hj) k h.fields.1 h.fields.2.1

theorem RecStep.follow {i : LaneId} {s t u : State} (h : RecStep i s t) (l : State.LaneOnly i t u)
    (k : Lane.SameTrack (t.lane i) (u.lane i)) : RecStep i s u := by
  have hc := l.fields.1
  have hd := l.fields.2.1
  cases h with
  | same ho h hc' hd' => exact .same (fun j hj => (l.lane_ne hj).trans (ho j hj)) (h.trans k) (hc.trans hc') (hd.trans hd')
  | opened b kd p hb ho h hc' hd' =>
    exact .opened b kd p hb (fun j hj => (l.lane_ne hj).trans (ho j hj)) (h.trans k) (hc.trans hc') (hd.trans hd')
  | closed n ho h hc' hd' =>
    exact .closed n (fun j hj => (l.lane_ne hj).trans (ho j hj)) (h.trans k) (hc.trans hc') (hd.trans hd')

/-- A change of lane i that keeps its track, before a record is carried out. -/
theorem RecStep.before {i : LaneId} {s t u : State} (l : State.LaneOnly i s t)
    (k : Lane.SameTrack (s.lane i) (t.lane i)) (h : RecStep i t u) : RecStep i s u := by
  have hc := l.fields.1
  have hd := l.fields.2.1
  cases h with
  | same ho h hc' hd' => exact .same (fun j hj => (ho j hj).trans (l.lane_ne hj)) (k.trans h) (hc'.trans hc) (hd'.trans hd)
  | opened b kd p hb ho h hc' hd' =>
    refine .opened b kd p hb (fun j hj => (ho j hj).trans (l.lane_ne hj)) (Lane.SameTrack.trans ?_ h)
      (by rw [hc', hc, k.store]) (by rw [hd', hd, k.table])
    constructor <;> rfl
  | closed n ho h hc' hd' =>
    refine .closed n (fun j hj => (ho j hj).trans (l.lane_ne hj)) (Lane.SameTrack.trans ?_ h)
      (by rw [hc', hc, k.store]) (by rw [hd', hd, k.table])
    constructor <;> simp [Lane.closed, k.par, k.nextSeg, k.mixPos, k.counters, k.segTotal, k.frmTotal]

theorem RecStep.refl (i : LaneId) (s : State) : RecStep i s s := RecStep.lane (State.LaneOnly.refl _ _) (Lane.SameTrack.refl _)

theorem RecStep.mod (s : State) (i : LaneId) (f : Lane → Lane) (hf : Lane.SameTrack (s.lane i) (f (s.lane i))) :
    RecStep i s (s.modLane i f) :=
  RecStep.lane (State.LaneOnly.modLane i s f) (by simpa using hf)

theorem RecStep.modThen {s u : State} {i : LaneId} (f : Lane → Lane) (hf : Lane.SameTrack (s.lane i) (f (s.lane i)))
    (h : State.LaneOnly i (s.modLane i f) u) (k : Lane.SameTrack ((s.modLane i f).lane i) (u.lane i)) : RecStep i s u :=
  (RecStep.mod s i f hf).follow h k

theorem State.execOpen_recStep (s : State) (i : LaneId) (c : Record) : RecStep i s (s.execOpen i c) := by
  unfold State.execOpen
  split
  · exact RecStep.lane (State.laneOnly_failRecord _ _ _) (State.failRecord_track _ _ _)
  · rename_i k p hb
    refine RecStep.follow ?_ (State.laneOnly_retire _ _ _ _) (State.retire_track _ _ _ _)
    refine .opened _ k p hb (fun j hj => by simp [hj]) ?_ (by simp) (by simp)
    simp only [State.lane_freeClips, State.lane_freeCues, State.lane_modLane_same]
    constructor <;> simp [Lane.opened]

theorem State.execClose_recStep (s : State) (i : LaneId) : RecStep i s (s.execClose i) := by
  unfold State.execClose
  have key : ∀ t : State, t = ((s.setLane i (((s.lane i).closed.withEx (fun x => { x with progress :=
      (s.lane i).store.length + (s.lane i).table.length })).credit (List.replicate ((s.lane i).store.length
      + (s.lane i).table.length) NoteKind.leftover))).freeCues (s.lane i).store.length).freeClips
      (s.lane i).table.length →
      RecStep i s t := by
    rintro t rfl
    refine .closed (List.replicate ((s.lane i).store.length + (s.lane i).table.length) .leftover)
      (fun j hj => by simp [hj]) ?_ (by simp) (by simp)
    simp only [State.lane_freeClips, State.lane_freeCues, State.lane_setLane_same]
    constructor <;> simp [Lane.closed]
  have k := key _ rfl
  dsimp only
  split
  · refine k.follow ((State.LaneOnly.modLane i _ _).trans (State.laneOnly_retire _ _ _ _)) ?_
    refine Lane.SameTrack.trans ?_ (State.retire_track _ _ _ _)
    simp only [State.lane_modLane_same]
    constructor <;> rfl
  · exact k.follow (State.laneOnly_retireDone _ _) (State.retireDone_track _ _)

theorem State.execute_recStep (s : State) (i : LaneId) : RecStep i s (s.execute i) := by
  have fr (w : Reason) : RecStep i s (s.failRecord i w) :=
    RecStep.lane (State.laneOnly_failRecord _ _ _) (State.failRecord_track _ _ _)
  have rd : RecStep i s (s.retireDone i) := RecStep.lane (State.laneOnly_retireDone _ _) (State.retireDone_track _ _)
  have eq : RecStep i s (s.enqueue i) := RecStep.mod s i _ (by constructor <;> rfl)
  unfold State.execute
  split
  · exact RecStep.refl _ _
  · rename_i c hc
    split
    · exact RecStep.lane (State.laneOnly_retireOwed _ _ _ _) (State.retireOwed_track _ _ _ _)
    · split
      · exact State.execOpen_recStep _ _ _
      · exact State.execClose_recStep _ _
      · unfold State.execCues
        dsimp only
        split
        · exact fr _
        · split
          · exact rd
          · exact RecStep.lane (State.laneOnly_nextIntake _ _) (State.nextIntake_track _ _)
      · unfold State.execCue
        split
        · exact rd
        · split
          · exact eq
          · exact fr _
      · unfold State.execEmit
        dsimp only
        split
        · exact fr _
        · split
          · exact rd
          · have hm (f : ExecState → ExecState) : Lane.SameTrack (s.lane i) ((s.lane i).withEx f) := by
              constructor <;> rfl
            split
            · exact RecStep.modThen _ (hm _) (State.laneOnly_retireDone _ _) (State.retireDone_track _ _)
            · split
              · exact RecStep.modThen _ (hm _) (State.laneOnly_failRecord _ _ _) (State.failRecord_track _ _ _)
              · refine RecStep.modThen _ (hm _) (State.laneOnly_enqueue _ _) ?_
                simp only [State.enqueue, State.lane_modLane_same]
                constructor <;> rfl
      · unfold State.execClip
        split
        · exact rd
        · split
          · exact fr _
          · exact eq
      · unfold State.execMix
        dsimp only
        split
        · exact fr _
        · split
          · exact rd
          · refine RecStep.modThen _ ?_ (State.laneOnly_prefetch _ _) (State.prefetch_track _ _)
            constructor <;> rfl
      · refine RecStep.modThen _ ?_ (State.laneOnly_retire _ _ _ _) (State.retire_track _ _ _ _)
        constructor <;> rfl
      · unfold State.execLink
        dsimp only
        split
        · exact fr _
        · exact RecStep.lane (State.laneOnly_startSeq _ _ _ _ _ _) (State.startSeq_track _ _ _ _ _ _ (by simp))
      · unfold State.execStop
        dsimp only
        split
        · refine RecStep.modThen _ ?_ ((State.LaneOnly.modLane i _ _).trans (State.laneOnly_startRead _ _ _ _))
            (Lane.SameTrack.trans ?_ (State.startRead_track _ _ _ _))
          · constructor <;> rfl
          · constructor <;> simp
        · refine RecStep.modThen _ ?_ (State.laneOnly_startSeq _ _ _ _ _ _) (State.startSeq_track _ _ _ _ _ _ (by simp))
          constructor <;> rfl
      · exact RecStep.refl _ _

theorem State.recordFetched_recStep (s : State) (i : LaneId) : RecStep i s (s.recordFetched i) := by
  unfold State.recordFetched
  split
  · exact RecStep.refl _ _
  · split
    · unfold State.startGate
      split
      · exact RecStep.mod s i _ (by constructor <;> rfl)
      · exact RecStep.lane (State.laneOnly_failRecord _ _ _) (State.failRecord_track _ _ _)
    · exact State.execute_recStep _ _

/-! ## The commands of one lane -/

/-- Rewriting with a condition: nothing, or a step. -/
theorem OneTrack.ite {s t : State} {p : Prop} [Decidable p] (h : p → OneTrack s t) :
    OneTrack s (if p then t else s) := by
  split
  · exact h ‹_›
  · exact OneTrack.refl _

theorem OneTrack.of {i : LaneId} {s t : State} (h : State.LaneOnly i s t) (k : Lane.SameTrack (s.lane i) (t.lane i)) :
    OneTrack s t := OneTrack.lane h k

theorem State.dropRead_oneTrack (s : State) (i : LaneId) : OneTrack s (s.dropRead i) :=
  OneTrack.mod s i _ (by constructor <;> rfl)

theorem State.startRead_oneTrack (s : State) (i : LaneId) (st : LaneState) (r : LaneRead) :
    OneTrack s (s.startRead i st r) :=
  OneTrack.lane (State.laneOnly_startRead _ _ _ _) (State.startRead_track _ _ _ _)

theorem State.failRecord_oneTrack (s : State) (i : LaneId) (w : Reason) : OneTrack s (s.failRecord i w) :=
  OneTrack.lane (State.laneOnly_failRecord _ _ _) (State.failRecord_track _ _ _)

theorem State.entryHalt_oneTrack (s : State) (i : LaneId) (w : Reason) (a : Addr) : OneTrack s (s.entryHalt i w a) :=
  OneTrack.lane (State.laneOnly_entryHalt _ _ _ _) (State.entryHalt_track _ _ _ _)

theorem State.entryRead_oneTrack (s : State) (i : LaneId) (a : Addr) : OneTrack s (s.entryRead i a) := by
  unfold State.entryRead
  refine OneTrack.ite fun _ => ?_
  split
  · exact State.dropRead_oneTrack _ _
  · split
    · exact State.entryHalt_oneTrack _ _ _ _
    · refine OneTrack.modThen _ ?_ (State.laneOnly_startRead _ _ _ _) (State.startRead_track _ _ _ _)
      constructor <;> rfl

theorem State.entryFailed_oneTrack (s : State) (i : LaneId) : OneTrack s (s.entryFailed i) := by
  unfold State.entryFailed
  refine OneTrack.ite fun _ => ?_
  split
  · exact State.dropRead_oneTrack _ _
  · exact State.entryHalt_oneTrack _ _ _ _

theorem RecStep.beforeMod {i : LaneId} {s u : State} (f : Lane → Lane) (hf : Lane.SameTrack (s.lane i) (f (s.lane i)))
    (h : RecStep i (s.modLane i f) u) : RecStep i s u :=
  RecStep.before (State.LaneOnly.modLane i s f) (by simpa using hf) h

theorem State.judgeHeader_recStep (s : State) (i : LaneId) (h : Header) : RecStep i s (s.judgeHeader i h) := by
  unfold State.judgeHeader
  dsimp only
  refine RecStep.beforeMod (fun l => { l with cur := l.cur.map (fun c => c.compared h) }) (by constructor <;> rfl) ?_
  generalize s.modLane i (fun l => { l with cur := l.cur.map (fun c => c.compared h) }) = t
  split
  · split
    · refine RecStep.modThen _ (by constructor <;> rfl) (State.laneOnly_failOwed _ _ _ _ _) ?_
      refine Lane.SameTrack.trans ?_ (State.startSeq_track _ _ _ _ _ _ (by simp))
      constructor <;> simp
    · split
      · exact RecStep.beforeMod _ (by constructor <;> rfl)
          (State.recordFetched_recStep _ _)
      · exact RecStep.lane (State.laneOnly_startRead _ _ _ _) (State.startRead_track _ _ _ _)
  · split
    · exact RecStep.modThen _ (by constructor <;> rfl) (State.laneOnly_retire _ _ _ _) (State.retire_track _ _ _ _)
    · split
      · exact RecStep.modThen _ (by constructor <;> rfl) (State.laneOnly_retire _ _ _ _) (State.retire_track _ _ _ _)
      · split
        · exact RecStep.beforeMod _ (by constructor <;> rfl)
            (State.recordFetched_recStep _ _)
        · exact RecStep.lane (State.laneOnly_startRead _ _ _ _) (State.startRead_track _ _ _ _)

theorem State.skipHeader_oneTrack (s : State) (i : LaneId) (h : Header) : OneTrack s (s.skipHeader i h) := by
  unfold State.skipHeader
  split
  · exact OneTrack.refl _
  · exact OneTrack.modThen _ (by constructor <;> rfl) (State.laneOnly_retireSkipped _ _ _) (State.retireSkipped_track _ _ _)

theorem State.headerRead_oneTrack (s : State) (i : LaneId) (b : BitVec 128) : OneTrack s (s.headerRead i b) := by
  unfold State.headerRead
  repeat' split
  · exact State.dropRead_oneTrack _ _
  · exact (State.judgeHeader_recStep _ _ _).oneTrack
  · exact State.dropRead_oneTrack _ _
  · exact State.skipHeader_oneTrack _ _ _
  · exact OneTrack.refl _

theorem State.bodyRead_oneTrack (s : State) (i : LaneId) (b : List Byte) : OneTrack s (s.bodyRead i b) := by
  unfold State.bodyRead
  repeat' split
  · exact State.dropRead_oneTrack _ _
  · exact (RecStep.beforeMod _ (by constructor <;> rfl) (State.recordFetched_recStep _ _)).oneTrack
  · exact OneTrack.refl _
  · exact OneTrack.refl _

theorem State.fetchFailed_oneTrack (s : State) (i : LaneId) : OneTrack s (s.fetchFailed i) := by
  unfold State.fetchFailed
  dsimp only
  repeat' split
  · exact State.dropRead_oneTrack _ _
  · exact OneTrack.modThen _ (by constructor <;> rfl) (State.laneOnly_failRecord _ _ _) (State.failRecord_track _ _ _)
  · exact State.dropRead_oneTrack _ _
  · exact OneTrack.modThen _ (by constructor <;> rfl) (State.laneOnly_failRecord _ _ _) (State.failRecord_track _ _ _)
  · exact OneTrack.refl _

theorem State.endPoll_oneTrack (s : State) (i : LaneId) (p : PollState) : OneTrack s (s.endPoll i p) :=
  OneTrack.mod s i _ (by constructor <;> rfl)

theorem State.pollDone_oneTrack (s : State) (i : LaneId) (w : BitVec 32) : OneTrack s (s.pollDone i w) := by
  unfold State.pollDone
  repeat' split
  · exact State.endPoll_oneTrack _ _ _
  · refine ((State.execute_recStep _ _).before (State.LaneOnly.modLane i s _) ?_).oneTrack
    simp only [State.lane_modLane_same]
    constructor <;> rfl
  · exact State.endPoll_oneTrack _ _ _
  · exact OneTrack.mod s i _ (by constructor <;> rfl)
  · exact OneTrack.refl _

theorem State.pollFailed_oneTrack (s : State) (i : LaneId) : OneTrack s (s.pollFailed i) := by
  unfold State.pollFailed
  repeat' split
  · exact State.endPoll_oneTrack _ _ _
  · refine OneTrack.modThen _ ?_ (State.laneOnly_failRecord _ _ _) (State.failRecord_track _ _ _)
    constructor <;> rfl
  · exact OneTrack.mod s i _ (by constructor <;> rfl)
  · exact OneTrack.refl _

theorem State.intakeDone_oneTrack (s : State) (i : LaneId) (cs : List RawCue) : OneTrack s (s.intakeDone i cs) := by
  unfold State.intakeDone
  dsimp only
  repeat' split
  · exact OneTrack.refl _
  · exact OneTrack.refl _
  · exact State.dropRead_oneTrack _ _
  · refine OneTrack.modThen _ ?_ (State.laneOnly_failRecord _ _ _) (State.failRecord_track _ _ _)
    constructor <;> rfl
  · exact OneTrack.mod s i _ (by constructor <;> rfl)
  · exact OneTrack.refl _

theorem State.intakeFailed_oneTrack (s : State) (i : LaneId) : OneTrack s (s.intakeFailed i) := by
  unfold State.intakeFailed
  repeat' split
  · exact State.dropRead_oneTrack _ _
  · refine OneTrack.modThen _ ?_ (State.laneOnly_failRecord _ _ _) (State.failRecord_track _ _ _)
    constructor <;> rfl
  · exact OneTrack.refl _

/-! ## The Timing Engine -/

/-- Every lane's track and both pools are the same in t as in s. -/
structure State.Keeps (s t : State) : Prop where
  lanes : ∀ j, Lane.SameTrack (s.lane j) (t.lane j)
  cueFree : t.cueFree = s.cueFree
  clipFree : t.clipFree = s.clipFree

theorem State.Keeps.oneTrack {s t : State} (h : State.Keeps s t) : OneTrack s t :=
  OneTrack.keep (fun j => .inl (h.lanes j)) h.cueFree h.clipFree

theorem State.Keeps.trans {s t u : State} (h : State.Keeps s t) (k : State.Keeps t u) : State.Keeps s u :=
  ⟨fun j => (h.lanes j).trans (k.lanes j), k.cueFree.trans h.cueFree, k.clipFree.trans h.clipFree⟩

theorem State.Keeps.of {s t : State} (hl : t.lanes = s.lanes) (hc : t.cueFree = s.cueFree)
    (hd : t.clipFree = s.clipFree) : State.Keeps s t :=
  ⟨fun j => by rw [show t.lane j = s.lane j by simp [State.lane, hl]]; exact Lane.SameTrack.refl _, hc, hd⟩

theorem State.Keeps.lane {i : LaneId} {s t : State} (h : State.LaneOnly i s t)
    (k : Lane.SameTrack (s.lane i) (t.lane i)) : State.Keeps s t := by
  refine ⟨fun j => ?_, h.fields.1, h.fields.2.1⟩
  by_cases hj : j = i
  · subst hj; exact k
  · rw [h.lane_ne hj]; exact Lane.SameTrack.refl _

theorem State.Keeps.mod (s : State) (i : LaneId) (f : Lane → Lane) (hf : Lane.SameTrack (s.lane i) (f (s.lane i))) :
    State.Keeps s (s.modLane i f) :=
  State.Keeps.lane (State.LaneOnly.modLane i s f) (by simpa using hf)

theorem State.Keeps.refl (s : State) : State.Keeps s s := State.Keeps.of rfl rfl rfl

theorem State.Keeps.retire (s : State) (i : LaneId) (o : RecOutcome) (w : Reason) : State.Keeps s (s.retire i o w) :=
  State.Keeps.lane (State.laneOnly_retire _ _ _ _) (State.retire_track _ _ _ _)

theorem State.Keeps.retireDone (s : State) (i : LaneId) : State.Keeps s (s.retireDone i) :=
  State.Keeps.lane (State.laneOnly_retireDone _ _) (State.retireDone_track _ _)

theorem State.Keeps.failRecord (s : State) (i : LaneId) (w : Reason) : State.Keeps s (s.failRecord i w) :=
  State.Keeps.lane (State.laneOnly_failRecord _ _ _) (State.failRecord_track _ _ _)

theorem State.Keeps.enqueue (s : State) (i : LaneId) : State.Keeps s (s.enqueue i) :=
  State.Keeps.mod s i _ (by constructor <;> rfl)

theorem State.Keeps.nextIntake (s : State) (i : LaneId) : State.Keeps s (s.nextIntake i) :=
  State.Keeps.lane (State.laneOnly_nextIntake _ _) (State.nextIntake_track _ _)

theorem State.Keeps.judgeHead (s : State) (i : LaneId) : State.Keeps s (s.judgeHead i) :=
  State.Keeps.lane (State.laneOnly_judgeHead _ _) (State.judgeHead_track _ _)

theorem State.Keeps.prefetch (s : State) (i : LaneId) : State.Keeps s (s.prefetch i) :=
  State.Keeps.lane (State.laneOnly_prefetch _ _) (State.prefetch_track _ _)

theorem State.Keeps.put (s : State) (w : LinkWrite) : State.Keeps s (s.put w) := State.Keeps.of rfl rfl rfl

theorem State.Keeps.releaseTiming (s : State) : State.Keeps s s.releaseTiming := State.Keeps.of rfl rfl rfl

theorem State.Keeps.setMix (s : State) (e : MixId) (m : MixEngine) : State.Keeps s (s.setMix e m) :=
  State.Keeps.of rfl rfl rfl

theorem State.Keeps.releaseMix (s : State) (e : MixId) : State.Keeps s (s.releaseMix e) := State.Keeps.setMix s e _

theorem State.Keeps.beginUnit (s : State) (i : LaneId) : State.Keeps s (s.beginUnit i) := by
  unfold State.beginUnit State.beginSegment
  dsimp only
  repeat' split
  · exact State.Keeps.releaseTiming _
  · exact (State.Keeps.releaseTiming _).trans (State.Keeps.retire _ _ _ _)
  all_goals exact State.Keeps.of rfl rfl rfl

theorem State.Keeps.grantTiming (s : State) : State.Keeps s s.grantTiming := by
  unfold State.grantTiming
  split
  · exact State.Keeps.refl _
  · rename_i i _
    refine State.Keeps.trans (t := ({ s with timing := { s.timing with owner := some i, ptr := i } } : State))
      (State.Keeps.of rfl rfl rfl) ?_
    refine State.Keeps.trans ?_ (State.Keeps.beginUnit _ _)
    exact State.Keeps.mod _ i _ (by constructor <;> rfl)

/-- A change of one lane's track, followed by what keeps every track. -/
theorem TrackStep.thenKeeps {s t u : State} {i : LaneId} (ho : ∀ j, j ≠ i → t.lane j = s.lane j) (h : TrackStep s t i)
    (k : State.Keeps t u) : OneTrack s u :=
  ⟨i, fun j hj => .inl (ho j hj ▸ k.lanes j), h.follow (k.lanes i) k.cueFree k.clipFree⟩

theorem State.Keeps.afterCueUnit (s : State) (i : LaneId) (w : CueWork) : State.Keeps s (s.afterCueUnit i w) := by
  unfold State.afterCueUnit
  dsimp only
  repeat' split
  · exact State.Keeps.refl _
  · exact State.Keeps.retire _ _ _ _
  · exact State.Keeps.retire _ _ _ _
  · exact State.Keeps.retire _ _ _ _
  · exact State.Keeps.retireDone _ _
  · exact State.Keeps.nextIntake _ _

theorem State.cueUnitEnds_oneTrack (s : State) : OneTrack s s.cueUnitEnds := by
  unfold State.cueUnitEnds
  split
  · exact OneTrack.refl _
  · rename_i i _
    split
    · exact OneTrack.refl _
    · rename_i c _
      dsimp only
      have key : ∀ t : State, t = { (s.releaseTiming.setLane i ((s.lane i).afterCues (cueUnit (s.lane i) c.ex s.cueFree
          ((s.lane i).batch c)))) with cueFree := (cueUnit (s.lane i) c.ex s.cueFree ((s.lane i).batch c)).free } →
          (∀ j, j ≠ i → t.lane j = s.lane j) ∧ TrackStep s t i := by
        rintro t rfl
        constructor
        · intro j hj
          exact State.lane_setLane_ne s.releaseTiming _ hj
        · refine .cues c _ rfl ?_ rfl rfl
          change Lane.SameTrack _ ((s.releaseTiming.setLane i _).lane i)
          rw [State.lane_setLane_same]
          exact Lane.SameTrack.refl _
      have k := key _ rfl
      split
      · exact k.2.thenKeeps k.1 (State.Keeps.refl _)
      · exact k.2.thenKeeps k.1 (State.Keeps.afterCueUnit _ _ _)

theorem State.Keeps.afterClipUnit (s : State) (i : LaneId) (n : List NoteKind) :
    State.Keeps s (s.afterClipUnit i n) := by
  unfold State.afterClipUnit
  repeat' split
  · exact State.Keeps.refl _
  · exact State.Keeps.retire _ _ _ _
  · exact State.Keeps.retireDone _ _

theorem State.clipUnitEnds_oneTrack (s : State) : OneTrack s s.clipUnitEnds := by
  unfold State.clipUnitEnds
  split
  · exact OneTrack.refl _
  · rename_i i _
    split
    · exact OneTrack.refl _
    · dsimp only
      split
      · rename_i notes _
        refine TrackStep.thenKeeps (i := i) (t := s.releaseTiming.setLane i ((s.lane i).afterClip (s.lane i).table notes))
          (fun j hj => by simp [hj]) (.clipDropped notes ?_ rfl rfl) (State.Keeps.afterClipUnit _ _ _)
        rw [State.lane_setLane_same]
        exact Lane.SameTrack.refl _
      · split
        · exact (State.Keeps.releaseTiming _).oneTrack
        · exact ((State.Keeps.releaseTiming _).trans (State.Keeps.retire _ _ _ _)).oneTrack
      · rename_i e notes hu
        refine TrackStep.thenKeeps (i := i) (t := ({ (s.releaseTiming.setLane i ((s.lane i).afterClip
          (insertClip e (s.lane i).table) notes)) with clipFree := s.clipFree - 1 } : State)) (fun j hj => ?_)
          (.clipInserted _ e notes hu ?_ rfl rfl) (State.Keeps.afterClipUnit _ _ _)
        · exact State.lane_setLane_ne s.releaseTiming _ hj
        · change Lane.SameTrack _ ((s.releaseTiming.setLane i _).lane i)
          rw [State.lane_setLane_same]
          exact Lane.SameTrack.refl _

theorem State.Keeps.afterSegment (s : State) (i : LaneId) (n : List NoteKind) : State.Keeps s (s.afterSegment i n) := by
  unfold State.afterSegment
  dsimp only
  repeat' split
  · exact State.Keeps.refl _
  · exact State.Keeps.refl _
  · exact State.Keeps.retire _ _ _ _
  · exact State.Keeps.retireDone _ _
  · exact State.Keeps.enqueue _ _

theorem State.segmentDone_oneTrack (s : State) (i : LaneId) (d : Option Nat) : OneTrack s (s.segmentDone i d) := by
  unfold State.segmentDone
  dsimp only
  refine TrackStep.thenKeeps (i := i) (t := (s.releaseTiming.setLane i ((s.lane i).completeSegment
    s.timing.buffer.length d)).freeCues (s.lane i).freedBySegment) (fun j hj => ?_)
    (.segment s.timing.buffer.length d ?_ rfl rfl)
    (State.Keeps.afterSegment _ _ _)
  · simp [hj]
  · simp only [State.lane_freeCues, State.lane_setLane_same]
    exact Lane.SameTrack.refl _

theorem State.Keeps.timingUnitFails (s : State) (i : LaneId) : State.Keeps s (s.timingUnitFails i) := by
  unfold State.timingUnitFails
  split
  · exact State.Keeps.releaseTiming _
  · exact (State.Keeps.releaseTiming _).trans (State.Keeps.failRecord _ _ _)

theorem OneTrack.afterPut {s u : State} {w : LinkWrite} (h : OneTrack (s.put w) u) : OneTrack s u :=
  OneTrack.after (t := s.put w) (fun _ => rfl) rfl rfl h

theorem State.segmentWritten_oneTrack (s : State) : OneTrack s s.segmentWritten := by
  unfold State.segmentWritten
  repeat' split
  · exact OneTrack.refl _
  · exact OneTrack.refl _
  · exact OneTrack.afterPut (State.segmentDone_oneTrack _ _ _)

theorem State.Keeps.segmentRefused (s : State) : State.Keeps s s.segmentRefused := by
  unfold State.segmentRefused
  repeat' split
  · exact State.Keeps.refl _
  · exact State.Keeps.refl _
  · exact (State.Keeps.put _ _).trans (State.Keeps.timingUnitFails _ _)

theorem State.segmentCompared_oneTrack (s : State) (b : List Byte) : OneTrack s (s.segmentCompared b) := by
  unfold State.segmentCompared
  repeat' split
  · exact OneTrack.refl _
  · exact State.segmentDone_oneTrack _ _ _
  · exact OneTrack.refl _

theorem State.Keeps.compareFailed (s : State) : State.Keeps s s.compareFailed := by
  unfold State.compareFailed
  split
  · exact State.Keeps.refl _
  · exact State.Keeps.timingUnitFails _ _

/-! ## Blocks and Mix Engines -/

theorem State.Keeps.blockRead (s : State) (i : LaneId) (b : List Byte) : State.Keeps s (s.blockRead i b) := by
  unfold State.blockRead
  repeat' split
  · exact ((State.Keeps.mod s i _ (by constructor <;> rfl)).trans (State.Keeps.judgeHead _ _)).trans
      (State.Keeps.prefetch _ _)
  all_goals exact State.Keeps.refl _

theorem State.Keeps.blockFailed (s : State) (i : LaneId) : State.Keeps s (s.blockFailed i) := by
  unfold State.blockFailed
  split
  · exact (State.Keeps.mod s i _ (by constructor <;> rfl)).trans (State.Keeps.judgeHead _ _)
  all_goals exact State.Keeps.refl _

theorem State.Keeps.staleEnded (s : State) (i : LaneId) : State.Keeps s (s.staleEnded i) := by
  unfold State.staleEnded
  split
  · exact (State.Keeps.mod s i _ (by constructor <;> rfl)).trans (State.Keeps.prefetch _ _)
  · exact State.Keeps.refl _

theorem State.Keeps.beginMix (s : State) (e : MixId) (i : LaneId) : State.Keeps s (s.beginMix e i) := by
  unfold State.beginMix State.computeBlock
  dsimp only
  repeat' split
  all_goals first
    | exact State.Keeps.setMix _ _ _
    | exact (State.Keeps.setMix _ _ _).trans (State.Keeps.setMix _ _ _)

theorem State.Keeps.grantMix (s : State) : State.Keeps s s.grantMix := by
  unfold State.grantMix
  split
  · rename_i e i _ _
    refine State.Keeps.trans (t := ({ s with mixPtr := i } : State)) (State.Keeps.of rfl rfl rfl) ?_
    refine State.Keeps.trans ?_ (State.Keeps.beginMix _ _ _)
    exact State.Keeps.mod _ i _ (by constructor <;> rfl)
  all_goals exact State.Keeps.refl _

theorem State.Keeps.clipsRead (s : State) (e : MixId) (r : List (List Byte)) : State.Keeps s (s.clipsRead e r) := by
  unfold State.clipsRead State.computeBlock
  dsimp only
  repeat' split
  all_goals first
    | exact State.Keeps.refl _
    | exact State.Keeps.setMix _ _ _

theorem State.Keeps.mixFails (s : State) (e : MixId) (i : LaneId) : State.Keeps s (s.mixFails e i) := by
  unfold State.mixFails
  split
  · exact State.Keeps.releaseMix _ _
  · exact (State.Keeps.releaseMix _ _).trans (State.Keeps.failRecord _ _ _)

theorem State.Keeps.clipsFailed (s : State) (e : MixId) : State.Keeps s (s.clipsFailed e) := by
  unfold State.clipsFailed
  repeat' split
  · exact State.Keeps.refl _
  · exact State.Keeps.mixFails _ _ _
  · exact State.Keeps.refl _

theorem State.Keeps.afterBlock (s : State) (i : LaneId) (f : Nat) (n : List NoteKind) :
    State.Keeps s (s.afterBlock i f n) := by
  unfold State.afterBlock
  dsimp only
  repeat' split
  · exact State.Keeps.refl _
  · exact State.Keeps.refl _
  · exact State.Keeps.retire _ _ _ _
  · exact State.Keeps.retireDone _ _
  · exact ((State.Keeps.mod s i _ (by constructor <;> rfl)).trans (State.Keeps.judgeHead _ _)).trans
      (State.Keeps.prefetch _ _)

theorem State.blockWritten_oneTrack (s : State) (e : MixId) : OneTrack s (s.blockWritten e) := by
  unfold State.blockWritten
  dsimp only
  split
  · exact OneTrack.refl _
  · rename_i i _
    split
    · rename_i off k _ b _ _
      split
      · refine TrackStep.thenKeeps (i := i) (t := (((s.put (.accepted (outputAddr (s.lane i) b off)
          (mixedBytes (s.mixEng e).acc))).releaseMix e).setLane i ((s.lane i).completeBlock k
          (clippedNotes (s.mixEng e).acc))).freeClips ((s.lane i).freedByBlock k)) (fun j hj => ?_) (.block k (clippedNotes (s.mixEng e).acc) ?_ rfl rfl)
          (State.Keeps.afterBlock _ _ _ _)
        · simp [hj]
        · simp only [State.lane_freeClips, State.lane_setLane_same]
          exact Lane.SameTrack.refl _
      · exact OneTrack.refl _
    all_goals exact OneTrack.refl _

theorem State.Keeps.blockRefused (s : State) (e : MixId) : State.Keeps s (s.blockRefused e) := by
  unfold State.blockRefused
  dsimp only
  split
  · exact State.Keeps.refl _
  · split
    · split
      · exact (State.Keeps.put _ _).trans (State.Keeps.mixFails _ _ _)
      · exact State.Keeps.refl _
    all_goals exact State.Keeps.refl _

/-! ## Retirements, teardowns and notices -/

theorem State.writeAccepted_oneTrack (s : State) (i : LaneId) : OneTrack s (s.writeAccepted i) := by
  unfold State.writeAccepted
  split
  · exact OneTrack.refl _
  · rename_i q k a b hq
    refine OneTrack.afterPut (w := .accepted a b) ?_
    have hio : (s.lane i).io = .seq q := by
      unfold Lane.headWrite at hq
      repeat' split at hq
      all_goals simp_all
    refine OneTrack.afterLane (i := i) (s := s.put (.accepted a b))
      (t := ((s.put (.accepted a b)).modLane i (fun l => l.wrote q k)).modLane i
        (fun l => { l with io := .seq { q with steps := q.steps.tail } })) ?_ ?_ ?_ (State.laneOnly_runSeq _ _)
      (State.runSeq_ends _ _)
    · exact (State.LaneOnly.modLane i _ _).trans (State.LaneOnly.modLane i _ _)
    · simp only [State.lane_modLane_same]
      constructor <;> cases k <;> rfl
    · intro q' h' hk
      simp at h'
      subst h'
      exact ⟨q, by simpa using hio, hk⟩

/-- The head write of a lane belongs to the sequence in its transfer. -/
theorem Lane.headWrite_io {l : Lane} {q : WriteSeq} {k : WriteKind} {a : Addr} {b : List Byte}
    (h : l.headWrite = some (q, k, a, b)) : l.io = .seq q := by
  unfold Lane.headWrite at h
  repeat' split at h
  all_goals simp_all

theorem State.teardownRefused_oneTrack (s : State) (i : LaneId) (q : WriteSeq) (a : Addr) (b : List Byte)
    (h : (s.lane i).io = .seq q) : OneTrack s (s.teardownRefused i q a b) :=
  OneTrack.afterPut (w := .torn a b)
    (State.popStep_oneTrack (s.put (.torn a b)) i q h { q with failed := true } rfl)

theorem State.Keeps.haltUnwritten (s : State) (i : LaneId) (r : RecResult) (acc : Bool) :
    State.Keeps s (s.haltUnwritten i r acc) := by
  have k : State.Keeps s (s.modLane i (fun l => { l with cur := l.cur.map (fun c => c.unwritten r acc) })) :=
    State.Keeps.mod s i _ (by constructor <;> rfl)
  unfold State.haltUnwritten
  dsimp only
  split
  · exact k.trans (State.Keeps.mod _ i _ (by constructor <;> rfl))
  · split
    · exact k
    · exact (k.trans (State.Keeps.mod _ i _ (by constructor <;> rfl))).trans
        (State.Keeps.lane (State.laneOnly_startSeq _ _ _ _ _ _) (State.startSeq_track _ _ _ _ _ _ (by simp)))

theorem State.statusRefused_oneTrack (s : State) (i : LaneId) : OneTrack s (s.statusRefused i) := by
  unfold State.statusRefused
  split
  · rename_i q a b hq
    split
    · exact ((State.Keeps.put _ _).trans (State.Keeps.haltUnwritten _ _ _ _)).oneTrack
    · exact State.teardownRefused_oneTrack _ _ _ _ _ (Lane.headWrite_io hq)
    all_goals exact OneTrack.refl _
  · rename_i q a b hq
    split
    · exact ((State.Keeps.put _ _).trans (State.Keeps.haltUnwritten _ _ _ _)).oneTrack
    · exact State.teardownRefused_oneTrack _ _ _ _ _ (Lane.headWrite_io hq)
    all_goals exact OneTrack.refl _
  all_goals exact OneTrack.refl _

theorem State.resumePointRefused_oneTrack (s : State) (i : LaneId) : OneTrack s (s.resumePointRefused i) := by
  unfold State.resumePointRefused
  split
  · rename_i q _ a b hq
    split
    · exact ((State.Keeps.put _ _).trans (State.Keeps.haltUnwritten _ _ _ _)).oneTrack
    · exact State.teardownRefused_oneTrack _ _ _ _ _ (Lane.headWrite_io hq)
    all_goals exact OneTrack.refl _
  all_goals exact OneTrack.refl _

/-- A refused write that is kept in mind, after which the sequence goes on. -/
theorem State.haltReasonPop_oneTrack (s : State) (i : LaneId) (q : WriteSeq) (w : LinkWrite)
    (h : (s.lane i).io = .seq q) :
    OneTrack s (((s.put w).modLane i (fun l => { l with haltReason := .hostAccess })).popStep i q) := by
  refine OneTrack.afterPut (w := w) (OneTrack.afterLane (i := i)
    (t := ((s.put w).modLane i (fun l => { l with haltReason := .hostAccess })).modLane i
      (fun l => { l with io := .seq { q with steps := q.steps.tail } })) ?_ ?_ ?_ (State.laneOnly_runSeq _ _)
    (State.runSeq_ends _ _))
  · exact (State.LaneOnly.modLane i _ _).trans (State.LaneOnly.modLane i _ _)
  · simp only [State.lane_modLane_same]
    constructor <;> rfl
  · intro q' h' hk
    simp at h'
    subst h'
    exact ⟨q, by simpa using h, hk⟩

theorem State.restRefused_oneTrack (s : State) (i : LaneId) : OneTrack s (s.restRefused i) := by
  unfold State.restRefused
  split
  · rename_i q _ a b hq
    split
    · exact State.teardownRefused_oneTrack _ _ _ _ _ (Lane.headWrite_io hq)
    · exact State.haltReasonPop_oneTrack _ _ _ _ (Lane.headWrite_io hq)
  all_goals exact OneTrack.refl _

theorem State.linkRefused_oneTrack (s : State) (i : LaneId) : OneTrack s (s.linkRefused i) := by
  unfold State.linkRefused
  split
  · rename_i q _ a b hq
    split
    · have k : State.Keeps s ((s.put (.torn a b)).modLane i
          (fun l => { (l.withEx (fun _ => ExecState.zero)) with io := .idle })) :=
        (State.Keeps.put _ _).trans (State.Keeps.mod _ i _ (by constructor <;> rfl))
      dsimp only
      split
      · exact k.oneTrack
      · exact (k.trans (State.Keeps.failRecord _ _ _)).oneTrack
    · exact OneTrack.refl _
  all_goals exact OneTrack.refl _

theorem State.stopRefused_oneTrack (s : State) (i : LaneId) : OneTrack s (s.stopRefused i) := by
  unfold State.stopRefused
  split
  · rename_i q _ a b hq
    split
    · exact State.haltReasonPop_oneTrack _ _ _ _ (Lane.headWrite_io hq)
    · exact OneTrack.refl _
  all_goals exact OneTrack.refl _

theorem State.teardownWriteRefused_oneTrack (s : State) (i : LaneId) : OneTrack s (s.teardownWriteRefused i) := by
  unfold State.teardownWriteRefused
  split
  · rename_i hq
    split
    · exact State.teardownRefused_oneTrack _ _ _ _ _ (Lane.headWrite_io hq)
    · exact OneTrack.refl _
  · exact OneTrack.refl _

theorem State.writeRefused_oneTrack (s : State) (i : LaneId) : OneTrack s (s.writeRefused i) := by
  unfold State.writeRefused
  split
  · exact OneTrack.refl _
  · rename_i q k a b hq
    dsimp only
    have io := Lane.headWrite_io hq
    split
    · exact State.teardownRefused_oneTrack _ _ _ _ _ io
    · exact State.statusRefused_oneTrack _ _
    · exact State.statusRefused_oneTrack _ _
    · exact State.resumePointRefused_oneTrack _ _
    · exact State.linkRefused_oneTrack _ _
    · exact State.haltReasonPop_oneTrack _ _ _ _ io

theorem State.startTeardown_keeps (s : State) (i : LaneId) (steps : List SeqStep) (hs : steps ≠ []) :
    State.Keeps s (s.startSeq i .abandoning .teardown steps true) := by
  refine State.Keeps.lane (State.laneOnly_startSeq _ _ _ _ _ _) ?_
  unfold State.startSeq
  rcases State.runSeq_cases (s.modLane i (fun l => { l with
    state := .abandoning, io := .seq { kind := .teardown, steps := steps, begun := true, failed := false } })) i
    with h | h
  · obtain ⟨q, hq, -, -, he, -⟩ := h
    simp at hq
    subst hq
    exact absurd he hs
  · refine Lane.SameTrack.trans ?_ h
    constructor <;> simp

theorem State.teardown_oneTrack (s : State) (i : LaneId) : OneTrack s (s.teardown i) := by
  unfold State.teardown
  dsimp only
  split
  · refine TrackStep.thenKeeps (i := i) (t := ((s.modLane i Lane.giveBack).freeCues (s.lane i).store.length).freeClips
      (s.lane i).table.length) (fun j hj => by simp [hj]) (.gaveBack ?_ rfl rfl) ?_
    · simp only [State.lane_freeClips, State.lane_freeCues, State.lane_modLane_same]
      exact Lane.SameTrack.refl _
    · have k (t : State) (steps : List SeqStep) (hs : steps ≠ []) :
          State.Keeps t (({ t with freeCtr := t.freeCtr + 1 } : State).startSeq i .abandoning .teardown steps true) :=
        State.Keeps.trans (t := { t with freeCtr := t.freeCtr + 1 }) (State.Keeps.of rfl rfl rfl)
          (State.startTeardown_keeps _ _ _ hs)
      exact k _ _ (by simp [teardownSteps])
  · exact OneTrack.refl _

theorem State.Keeps.resumeNow (s : State) (i : LaneId) : State.Keeps s (s.resumeNow i) :=
  State.Keeps.lane (State.laneOnly_resumeNow _ _) (State.startRead_track _ _ _ _)

theorem State.Keeps.startRead (s : State) (i : LaneId) (st : LaneState) (r : LaneRead) :
    State.Keeps s (s.startRead i st r) :=
  State.Keeps.lane (State.laneOnly_startRead _ _ _ _) (State.startRead_track _ _ _ _)

theorem State.Keeps.skipNow (s : State) (i : LaneId) : State.Keeps s (s.skipNow i) :=
  State.Keeps.lane (State.laneOnly_skipNow _ _) (State.skipNow_track _ _)

theorem State.Keeps.leaveWait (s : State) (i : LaneId) : State.Keeps s (s.leaveWait i) := by
  unfold State.leaveWait
  repeat' split
  · exact State.Keeps.startRead _ _ _ _
  · exact State.Keeps.resumeNow _ _
  · exact State.Keeps.skipNow _ _
  · exact State.Keeps.refl _

theorem State.slotEnded_oneTrack (s : State) (i : LaneId) (own : Bool) : OneTrack s (s.slotEnded i own) := by
  unfold State.slotEnded
  repeat' split
  · rename_i hq
    exact State.finishSeq_oneTrack _ _ _ _ hq
  · exact OneTrack.refl _
  · exact OneTrack.refl _
  · exact (State.Keeps.leaveWait _ _).oneTrack
  · exact State.runSeq_oneTrack _ _

@[simp] theorem State.lane_askMsi (s : State) (j : LaneId) : s.askMsi.lane j = s.lane j := by
  unfold State.askMsi
  dsimp only
  split <;> rfl

@[simp] theorem State.cueFree_askMsi (s : State) : s.askMsi.cueFree = s.cueFree := by
  unfold State.askMsi
  dsimp only
  split <;> rfl

@[simp] theorem State.clipFree_askMsi (s : State) : s.askMsi.clipFree = s.clipFree := by
  unfold State.askMsi
  dsimp only
  split <;> rfl

@[simp] theorem State.lane_raisePend (s : State) (i j : LaneId) : (s.raisePend i).lane j = s.lane j := by
  unfold State.raisePend
  dsimp only
  split <;> simp [State.lane]
  exact State.lane_askMsi _ _

@[simp] theorem State.cueFree_raisePend (s : State) (i : LaneId) : (s.raisePend i).cueFree = s.cueFree := by
  unfold State.raisePend
  dsimp only
  split <;> simp

@[simp] theorem State.clipFree_raisePend (s : State) (i : LaneId) : (s.raisePend i).clipFree = s.clipFree := by
  unfold State.raisePend
  dsimp only
  split <;> simp

/-- A change that keeps every track and every transfer, before a step. -/
theorem OneTrack.beforeKept {s t u : State} (h : State.Keeps s t)
    (hq : ∀ j q, (t.lane j).io = .seq q → q.kind = .teardown → ∃ q', (s.lane j).io = .seq q' ∧ q'.kind = .teardown)
    (k : ∃ i, State.LaneOnly i t u ∧ (Lane.SameTrack (t.lane i) (u.lane i)
      ∨ ∃ q, (t.lane i).io = .seq q ∧ q.kind = .teardown ∧ Lane.SameTrack Lane.reset (u.lane i))) : OneTrack s u := by
  obtain ⟨i, l, k⟩ := k
  refine ⟨i, fun j hj => .inl ?_, ?_⟩
  · rw [l.lane_ne hj]; exact h.lanes j
  · rcases k with k | ⟨q, hio, hk, k⟩
    · exact .same ((h.lanes i).trans k) (l.fields.1.trans h.cueFree) (l.fields.2.1.trans h.clipFree)
    · obtain ⟨q', hio', hk'⟩ := hq i q hio hk
      exact .torn q' hio' hk' k (l.fields.1.trans h.cueFree) (l.fields.2.1.trans h.clipFree)

theorem State.laneOnly_leaveWait (s : State) (i : LaneId) : State.LaneOnly i s (s.leaveWait i) := by
  unfold State.leaveWait
  repeat' split
  · exact State.laneOnly_startRead _ _ _ _
  · exact State.laneOnly_resumeNow _ _
  · exact State.laneOnly_skipNow _ _
  · exact State.LaneOnly.refl _ _

theorem State.laneOnly_slotEnded (s : State) (i : LaneId) (own : Bool) : State.LaneOnly i s (s.slotEnded i own) := by
  unfold State.slotEnded
  repeat' split
  · exact State.laneOnly_finishSeq _ _ _ _
  · exact State.LaneOnly.refl _ _
  · exact State.LaneOnly.refl _ _
  · exact State.laneOnly_leaveWait _ _
  · exact State.laneOnly_runSeq _ _

theorem State.slotEnded_ends (s : State) (i : LaneId) (own : Bool) :
    Lane.SameTrack (s.lane i) ((s.slotEnded i own).lane i)
      ∨ ∃ q, (s.lane i).io = .seq q ∧ q.kind = .teardown
        ∧ Lane.SameTrack Lane.reset ((s.slotEnded i own).lane i) := by
  unfold State.slotEnded
  repeat' split
  · rename_i q hq
    rcases State.finishSeq_cases s i q false with h | h
    · refine .inr ⟨q, hq, h.1, ?_⟩
      rw [h.2]
      constructor <;> rfl
    · exact .inl h.2
  · exact .inl (Lane.SameTrack.refl _)
  · exact .inl (Lane.SameTrack.refl _)
  · exact .inl ((State.Keeps.leaveWait _ _).lanes i)
  · exact State.runSeq_ends _ _

theorem State.slotPosted_step (s : State) (i : LaneId) (w : SlotWrite) :
    ∃ t, State.Keeps s t ∧ (∀ j, (t.lane j).io = (s.lane j).io) ∧ s.slotPosted i w = t.slotEnded i w.own := by
  unfold State.slotPosted
  dsimp only
  refine ⟨_, ?_, ?_, rfl⟩
  · have h1 : State.Keeps s (s.modLane i (fun l => { l with slot := none })) :=
      State.Keeps.mod s i _ (by constructor <;> rfl)
    split
    · refine h1.trans ⟨fun j => ?_, by simp, by simp⟩
      rw [State.lane_raisePend]
      exact Lane.SameTrack.refl _
    · exact h1
  · intro j
    split <;> by_cases hj : j = i <;> simp_all

theorem State.slotAccepted_oneTrack (s : State) (i : LaneId) : OneTrack s (s.slotAccepted i) := by
  unfold State.slotAccepted
  split
  · exact OneTrack.refl _
  · rename_i w _
    obtain ⟨t, hk, hio, he⟩ := State.slotPosted_step (s.put (.accepted (noticeSlotAddr s.dirBase i) w.notice.bytes)) i w
    rw [he]
    refine OneTrack.beforeKept ((State.Keeps.put _ _).trans hk) (fun j q hq hkq => ⟨q, ?_, hkq⟩)
      ⟨i, State.laneOnly_slotEnded _ _ _, State.slotEnded_ends _ _ _⟩
    rw [hio] at hq
    exact hq

theorem State.slotRefused_oneTrack (s : State) (i : LaneId) : OneTrack s (s.slotRefused i) := by
  unfold State.slotRefused
  split
  · exact OneTrack.refl _
  · rename_i w _
    obtain ⟨t, hk, hio, he⟩ := State.slotPosted_step
      (s.modLane i (fun l => l.slotFailed w.own)) i w
    rw [he]
    refine OneTrack.beforeKept ((State.Keeps.mod _ i _ (by constructor <;> rfl)).trans hk)
      (fun j q hq hkq => ?_) ⟨i, State.laneOnly_slotEnded _ _ _, State.slotEnded_ends _ _ _⟩
    rw [hio] at hq
    by_cases hj : j = i
    · subst hj
      simp only [State.lane_modLane_same, Lane.slotFailed] at hq
      split at hq
      · rename_i q' hq'
        simp at hq
        exact ⟨q', hq', by rw [← hq] at hkq; exact hkq⟩
      · simp at hq
      · simp at hq
    · simp only [State.lane_modLane_ne _ _ hj] at hq
      exact ⟨q, hq, hkq⟩

/-! ## Registers, HOLD and reset -/

theorem State.Keeps.clearPend (v : BitVec 32) (s : State) (i : LaneId) : State.Keeps s (s.clearPend v i) := by
  unfold State.clearPend
  split
  · refine State.Keeps.trans (t := ({ s with pend := s.pend &&& ~~~(laneBit i) } : State)) (State.Keeps.of rfl rfl rfl) ?_
    refine State.Keeps.mod _ i _ ?_
    unfold Lane.releaseDeferred
    split <;> constructor <;> rfl
  · exact State.Keeps.refl _

theorem State.Keeps.foldl {f : State → LaneId → State} (h : ∀ s i, State.Keeps s (f s i)) (is : List LaneId) (s : State) :
    State.Keeps s (is.foldl f s) := by
  induction is generalizing s with
  | nil => exact State.Keeps.refl _
  | cons i is ih => exact (h s i).trans (ih _)

theorem State.Keeps.writePend (s : State) (v : BitVec 32) : State.Keeps s (s.writePend v) :=
  State.Keeps.foldl (fun s i => State.Keeps.clearPend v s i) _ _

theorem State.Keeps.askMsi (s : State) : State.Keeps s s.askMsi :=
  ⟨fun j => by rw [State.lane_askMsi]; exact Lane.SameTrack.refl _, by simp, by simp⟩

theorem State.Keeps.writeMask (s : State) (v : BitVec 32) : State.Keeps s (s.writeMask v) := by
  unfold State.writeMask
  dsimp only
  split
  · exact State.Keeps.of rfl rfl rfl
  · exact State.Keeps.trans (t := { s with mask := v.setWidth 16 }) (State.Keeps.of rfl rfl rfl) (State.Keeps.askMsi _)

theorem State.Keeps.writeDirBase (s : State) (h : DirHalf) (v : BitVec 32) : State.Keeps s (s.writeDirBase h v) := by
  unfold State.writeDirBase
  split <;> exact State.Keeps.of rfl rfl rfl

theorem State.laneOnly_wakeIO (s : State) (i : LaneId) : State.LaneOnly i s (s.wakeIO i) := by
  unfold State.wakeIO
  repeat' split
  · exact State.LaneOnly.modLane i s _
  · exact State.LaneOnly.refl _ _
  · exact State.LaneOnly.refl _ _
  · exact (State.LaneOnly.modLane i s _).trans (State.laneOnly_runSeq _ _)
  · exact State.LaneOnly.refl _ _

theorem State.laneOnly_wake (s : State) (i : LaneId) : State.LaneOnly i s (s.wake i) :=
  ((State.laneOnly_wakeIO s i).trans (State.LaneOnly.modLane i _ _)).trans (State.laneOnly_prefetch _ _)

theorem State.wakeIO_kept (s : State) (i : LaneId) : Lane.Kept (s.lane i) ((s.wakeIO i).lane i) := by
  unfold State.wakeIO
  split
  · left; simp only [State.lane_modLane_same]; constructor <;> rfl
  · exact .inl (Lane.SameTrack.refl _)
  · rename_i q hq
    split
    · exact .inl (Lane.SameTrack.refl _)
    · rcases State.runSeq_ends (s.modLane i (fun l => { l with io := .seq { q with begun := true } })) i
        with h | ⟨q', hq', hk, h⟩
      · left
        refine Lane.SameTrack.trans ?_ h
        simp only [State.lane_modLane_same]
        constructor <;> rfl
      · right
        simp at hq'
        subst hq'
        exact ⟨q, hq, hk, h⟩
  · exact .inl (Lane.SameTrack.refl _)

theorem Lane.Kept.thenSame {l m n : Lane} (h : Lane.Kept l m) (k : Lane.SameTrack m n) : Lane.Kept l n := by
  rcases h with h | ⟨q, a, b, h⟩
  · exact .inl (h.trans k)
  · exact .inr ⟨q, a, b, h.trans k⟩

theorem Lane.wakePoll_track (l : Lane) : Lane.SameTrack l l.wakePoll := by
  unfold Lane.wakePoll
  split <;> constructor <;> rfl

theorem State.wake_kept (s : State) (i : LaneId) : Lane.Kept (s.lane i) ((s.wake i).lane i) := by
  unfold State.wake
  refine Lane.Kept.thenSame (Lane.Kept.thenSame (State.wakeIO_kept s i) (Lane.wakePoll_track _)) ?_
  have h := State.prefetch_track ((s.wakeIO i).modLane i Lane.wakePoll) i
  rwa [State.lane_modLane_same] at h

/-- A fold of operations, each on its own lane: every lane meets its own operation on a state that differs from the first
in other lanes only. -/
theorem foldl_lanes {f : State → LaneId → State} (hf : ∀ s i, State.LaneOnly i s (f s i)) (P : Lane → Lane → Prop)
    (hP : ∀ s i, P (s.lane i) ((f s i).lane i)) (h0 : ∀ l, P l l) (is : List LaneId) (hn : is.Nodup) (s : State) :
    ∀ j, P (s.lane j) ((is.foldl f s).lane j) := by
  have out : ∀ (is : List LaneId) (s : State) (j : LaneId), j ∉ is → (is.foldl f s).lane j = s.lane j := by
    intro is
    induction is with
    | nil => intro s j _; rfl
    | cons i is ih =>
      intro s j hj
      simp only [List.mem_cons, not_or] at hj
      rw [List.foldl_cons, ih _ _ hj.2, (hf s i).lane_ne hj.1]
  induction is generalizing s with
  | nil => intro j; exact h0 _
  | cons i is ih =>
    intro j
    simp only [List.nodup_cons] at hn
    rw [List.foldl_cons]
    by_cases hj : j = i
    · subst hj
      rw [out is _ j hn.1]
      exact hP s j
    · have h := ih hn.2 (f s i) j
      rw [(hf s i).lane_ne hj] at h
      exact h

theorem laneIds_nodup : laneIds.Nodup := List.nodup_finRange 16

theorem foldl_laneOnly_pools {f : State → LaneId → State} (hf : ∀ s i, State.LaneOnly i s (f s i)) (is : List LaneId)
    (s : State) : (is.foldl f s).cueFree = s.cueFree ∧ (is.foldl f s).clipFree = s.clipFree := by
  induction is generalizing s with
  | nil => exact ⟨rfl, rfl⟩
  | cons i is ih =>
    have h := (hf s i).fields
    rw [List.foldl_cons, (ih _).1, (ih _).2]
    exact ⟨h.1, h.2.1⟩

theorem State.holdCleared_oneTrack (s : State) : OneTrack s s.holdCleared := by
  unfold State.holdCleared
  refine OneTrack.ite fun _ => ?_
  have hp := foldl_laneOnly_pools State.laneOnly_wake laneIds { s with dev := .run }
  refine OneTrack.keep (fun j => ?_) hp.1 hp.2
  exact foldl_lanes State.laneOnly_wake Lane.Kept State.wake_kept (fun l => .inl (Lane.SameTrack.refl l)) laneIds
    laneIds_nodup { s with dev := .run } j

/-! ## The failures without bus mastering (R167) -/

/-- What a failure of one of lane i's transfers is. -/
inductive FailStep (s : State) (i : LaneId) : State → Prop where
  | segment (h : s.timing.owner = some i) : FailStep s i s.segmentRefused
  | compare (h : s.timing.owner = some i) : FailStep s i s.compareFailed
  | clips (e : MixId) (h : (s.mixEng e).owner = some i) : FailStep s i (s.clipsFailed e)
  | output (e : MixId) (h : (s.mixEng e).owner = some i) : FailStep s i (s.blockRefused e)
  | block : FailStep s i (s.blockFailed i)
  | stale : FailStep s i (s.staleEnded i)
  | poll : FailStep s i (s.pollFailed i)
  | entry : FailStep s i (s.entryFailed i)
  | fetch : FailStep s i (s.fetchFailed i)
  | intake : FailStep s i (s.intakeFailed i)
  | slot : FailStep s i (s.slotRefused i)
  | write : FailStep s i (s.writeRefused i)

theorem failedWhen_some {b : Bool} {s t : State} (h : failedWhen b s = some t) : b = true ∧ t = s := by
  unfold failedWhen at h
  split at h
  · exact ⟨‹_›, by simpa using h.symm⟩
  · cases h

theorem State.failUnit_step {s t : State} {i : LaneId} (h : s.failUnit i = some t) : FailStep s i t := by
  simp only [State.failUnit, Option.or_eq_some_iff] at h
  rcases h with h | ⟨-, h | ⟨-, h | ⟨-, h | ⟨-, h | ⟨-, h⟩⟩⟩⟩⟩ <;> obtain ⟨hb, rfl⟩ := failedWhen_some h <;> simp at hb
  · exact .segment hb.1
  · exact .compare hb.1
  · exact .clips 0 hb.1
  · exact .output 0 hb.1
  · exact .clips 1 hb.1
  · exact .output 1 hb.1

theorem State.failRead_step {s t : State} {i : LaneId} (h : s.failRead i = some t) : FailStep s i t := by
  unfold State.failRead at h
  split at h
  · cases h; exact .block
  · cases h; exact .stale
  · split at h
    · cases h; exact .poll
    · split at h <;> cases h
      · exact .entry
      · exact .intake
      · exact .fetch
      · exact .fetch

theorem State.failWrite_step {s t : State} {i : LaneId} (h : s.failWrite i = some t) : FailStep s i t := by
  simp only [State.failWrite, Option.or_eq_some_iff] at h
  rcases h with h | ⟨-, h⟩ <;> obtain ⟨-, rfl⟩ := failedWhen_some h
  · exact .slot
  · exact .write

/-- Everything a failure can be. -/
theorem State.failOne_step {s t : State} {i : LaneId} (h : s.failOne i = some t) : FailStep s i t := by
  simp only [State.failOne, Option.or_eq_some_iff] at h
  rcases h with (h | ⟨-, h⟩) | ⟨-, h⟩
  · exact State.failUnit_step h
  · exact State.failRead_step h
  · exact State.failWrite_step h

theorem FailStep.oneTrack {s t : State} {i : LaneId} (h : FailStep s i t) : OneTrack s t := by
  cases h with
  | segment h => exact (State.Keeps.segmentRefused _).oneTrack
  | compare h => exact (State.Keeps.compareFailed _).oneTrack
  | clips e h => exact (State.Keeps.clipsFailed _ _).oneTrack
  | output e h => exact (State.Keeps.blockRefused _ _).oneTrack
  | block => exact (State.Keeps.blockFailed _ _).oneTrack
  | stale => exact (State.Keeps.staleEnded _ _).oneTrack
  | poll => exact State.pollFailed_oneTrack _ _
  | entry => exact State.entryFailed_oneTrack _ _
  | fetch => exact State.fetchFailed_oneTrack _ _
  | intake => exact State.intakeFailed_oneTrack _ _
  | slot => exact State.slotRefused_oneTrack _ _
  | write => exact State.writeRefused_oneTrack _ _

/-- t is reached from s by failures of transfers only. -/
inductive Fails : State → State → Prop where
  | refl (s : State) : Fails s s
  | step {s t u : State} (i : LaneId) (h : s.failOne i = some t) (k : Fails t u) : Fails s u

theorem Fails.trans {s t u : State} (h : Fails s t) (k : Fails t u) : Fails s u := by
  induction h with
  | refl => exact k
  | step i h _ ih => exact .step i h (ih k)

theorem State.failUpTo_fails (n : Nat) (s : State) (i : LaneId) : Fails s (s.failUpTo n i) := by
  induction n generalizing s with
  | zero => exact .refl _
  | succ n ih =>
    unfold State.failUpTo
    split
    · exact .step i ‹_› (ih _)
    · exact .refl _

theorem State.foldl_fails (is : List LaneId) (s : State) : Fails s (is.foldl State.failAll s) := by
  induction is generalizing s with
  | nil => exact .refl _
  | cons i is ih => exact (State.failUpTo_fails _ s i).trans (ih _)

/-- With bus mastering enabled what a command asks for stays in flight. -/
@[simp] theorem State.onLink_enabled {s : State} (h : s.bus.busMaster = true) (i : LaneId) (t : State) :
    s.onLink i t = t := by simp [State.onLink, h]

@[simp] theorem State.onLinkOf_enabled {s : State} (h : s.bus.busMaster = true) (o : Option LaneId) (t : State) :
    s.onLinkOf o t = t := by cases o <;> simp [State.onLinkOf, h]

@[simp] theorem State.onLinkOf_none (s t : State) : s.onLinkOf none t = t := rfl

@[simp] theorem State.onLinkOf_some (s : State) (i : LaneId) (t : State) : s.onLinkOf (some i) t = s.onLink i t := rfl

@[simp] theorem State.onLinkAll_enabled {s : State} (h : s.bus.busMaster = true) (t : State) : s.onLinkAll t = t := by
  simp [State.onLinkAll, h]

@[simp] theorem State.onLinkInspect_enabled {s : State} (h : s.bus.busMaster = true) (t : State) :
    s.onLinkInspect t = t := by simp [State.onLinkInspect, h]

theorem State.onLink_fails (s : State) (i : LaneId) (t : State) : Fails t (s.onLink i t) := by
  unfold State.onLink
  split
  · exact .refl _
  · exact State.failUpTo_fails _ _ _

theorem State.onLinkAll_fails (s t : State) : Fails t (s.onLinkAll t) := by
  unfold State.onLinkAll
  split
  · exact .refl _
  · exact State.foldl_fails _ _

/-! ## Steps one after another -/

/-- t is reached from s by steps that each change at most one lane's track. An invariant that `OneTrack` keeps is kept by
this. -/
inductive Tracks : State → State → Prop where
  | refl (s : State) : Tracks s s
  | step {s t u : State} (h : OneTrack s t) (k : Tracks t u) : Tracks s u

theorem OneTrack.tracks {s t : State} (h : OneTrack s t) : Tracks s t := .step h (.refl _)

theorem Tracks.trans {s t u : State} (h : Tracks s t) (k : Tracks t u) : Tracks s u := by
  induction h with
  | refl => exact k
  | step h _ ih => exact .step h (ih k)

theorem Tracks.ite {s t : State} {p : Prop} [Decidable p] (h : p → Tracks s t) : Tracks s (if p then t else s) := by
  split
  · exact h ‹_›
  · exact .refl _

theorem Fails.tracks {s t : State} (h : Fails s t) : Tracks s t := by
  induction h with
  | refl => exact .refl _
  | step i h _ ih => exact .step (State.failOne_step h).oneTrack ih

theorem OneTrack.onLink {s t u : State} {i : LaneId} (h : OneTrack s t) : Tracks s (u.onLink i t) :=
  h.tracks.trans (State.onLink_fails u i t).tracks

theorem OneTrack.onLinkOf {s t u : State} {o : Option LaneId} (h : OneTrack s t) : Tracks s (u.onLinkOf o t) := by
  cases o
  · exact h.tracks
  · exact h.onLink

theorem OneTrack.onLinkAll {s t u : State} (h : OneTrack s t) : Tracks s (u.onLinkAll t) :=
  h.tracks.trans (State.onLinkAll_fails u t).tracks

/-! ## The Command Port -/

theorem State.Keeps.endInspect (s : State) (r : CmdResult) : State.Keeps s (s.endInspect r) := State.Keeps.of rfl rfl rfl

theorem State.Keeps.inspectRead (s : State) (b : BitVec 96) : State.Keeps s (s.inspectRead b) := by
  unfold State.inspectRead
  repeat' split
  all_goals exact State.Keeps.of rfl rfl rfl

theorem State.Keeps.inspectReadFailed (s : State) : State.Keeps s s.inspectReadFailed := by
  unfold State.inspectReadFailed
  repeat' split
  all_goals exact State.Keeps.of rfl rfl rfl

theorem State.Keeps.inspectWritten (s : State) : State.Keeps s s.inspectWritten := by
  unfold State.inspectWritten
  repeat' split
  all_goals exact State.Keeps.of rfl rfl rfl

theorem State.Keeps.inspectRefused (s : State) : State.Keeps s s.inspectRefused := by
  unfold State.inspectRefused
  repeat' split
  all_goals exact State.Keeps.of rfl rfl rfl

theorem State.Keeps.continueNow (s : State) (i : LaneId) : State.Keeps s (s.continueNow i) := by
  unfold State.continueNow
  dsimp only
  repeat' split
  all_goals first
    | exact State.Keeps.startRead _ _ _ _
    | exact State.Keeps.mod s i _ (by constructor <;> rfl)

theorem State.Keeps.resumeAction (s : State) (i : LaneId) : State.Keeps s (s.resumeAction i) := by
  unfold State.resumeAction
  dsimp only
  have k := State.Keeps.mod s i (fun l => { l with haltReason := .none }) (by constructor <;> rfl)
  split
  · exact k.trans (State.Keeps.mod _ i _ (by constructor <;> rfl))
  · exact k.trans (State.Keeps.resumeNow _ _)

theorem State.Keeps.skipAction (s : State) (i : LaneId) : State.Keeps s (s.skipAction i) := by
  unfold State.skipAction
  dsimp only
  have k := State.Keeps.mod s i (fun l => { l with haltReason := .none }) (by constructor <;> rfl)
  split
  · exact k.trans (State.Keeps.mod _ i _ (by constructor <;> rfl))
  · exact k.trans (State.Keeps.skipNow _ _)

theorem State.Keeps.onLinkInspect {s t : State} (h : State.Keeps s t) (u : State) :
    State.Keeps s (u.onLinkInspect t) := by
  unfold State.onLinkInspect
  split
  · exact h
  · exact (h.trans (State.Keeps.inspectReadFailed _)).trans (State.Keeps.inspectRefused _)

theorem State.perform_tracks (s : State) (i : LaneId) (a : Action) : Tracks s (s.perform i a) := by
  unfold State.perform
  split
  · refine OneTrack.onLink (State.Keeps.oneTrack ?_)
    exact (State.Keeps.mod s i _ (by constructor <;> rfl)).trans (State.Keeps.startRead _ _ _ _)
  · exact OneTrack.onLink (State.Keeps.continueNow _ _).oneTrack
  · exact OneTrack.onLink (State.Keeps.resumeAction _ _).oneTrack
  · exact OneTrack.onLink (State.Keeps.skipAction _ _).oneTrack
  · exact (State.Keeps.mod s i _ (by constructor <;> rfl)).oneTrack.tracks
  · have k : State.Keeps s (s.startInspect i) := State.Keeps.of rfl rfl rfl
    exact (k.onLinkInspect s).oneTrack.tracks

theorem State.laneCmd_tracks (s : State) (i : LaneId) (code : BitVec 4) : Tracks s (s.laneCmd i code) := by
  have k (p : CmdPort) : Tracks s { s with port := p } :=
    (State.Keeps.of (s := s) (t := { s with port := p }) rfl rfl rfl).oneTrack.tracks
  unfold State.laneCmd
  split
  · exact k _
  · split
    · exact k _
    · dsimp only
      split
      · exact (k _).trans (State.perform_tracks _ _ _)
      · exact k _

theorem State.readTimeout_tracks (s : State) (r : ReadRef) : Tracks s (s.readTimeout r) := by
  have clips (s : State) (i : LaneId) (e : MixId) : Tracks s (s.clipsTimeout i e) := by
    unfold State.clipsTimeout
    split
    · exact (State.Keeps.clipsFailed _ _).oneTrack.onLink
    · exact .refl _
  unfold State.readTimeout
  split
  · exact (State.entryFailed_oneTrack _ _).onLink
  · exact (State.fetchFailed_oneTrack _ _).onLink
  · exact (State.pollFailed_oneTrack _ _).onLink
  · exact (State.intakeFailed_oneTrack _ _).onLink
  · split
    · exact (State.Keeps.compareFailed _).oneTrack.onLinkOf
    · exact .refl _
  · exact (clips _ _ _).trans (clips _ _ _)
  · refine OneTrack.onLink (State.Keeps.oneTrack ?_)
    unfold State.blockTimeout
    split
    · exact State.Keeps.staleEnded _ _
    · exact State.Keeps.blockFailed _ _
  · exact (State.Keeps.inspectReadFailed _).oneTrack.tracks

/-! ## Every command -/

/-- A reset: every lane as after device reset, and both pools whole. -/
def State.IsReset (t : State) : Prop :=
  (∀ j, t.lane j = Lane.reset) ∧ t.cueFree = Config.cuePool ∧ t.clipFree = Config.clipPool

theorem State.lane_deviceReset (s : State) (j : LaneId) : s.deviceReset.lane j = Lane.reset := by
  simp [State.lane, State.deviceReset, State.reset, Vector.get_eq_getElem]

/-- A command changes at most one lane's track, in one of the ways of `TrackStep`, and then, without bus mastering, the
transfers asked for fail in steps of that kind; or it is a reset. -/
theorem exec_tracks (c : Instr) (s t : State) (h : exec c s = .next t) : Tracks s t ∨ t.IsReset := by
  have reset : s.deviceReset.IsReset := ⟨State.lane_deviceReset s, rfl, rfl⟩
  cases c
  all_goals
    simp only [exec] at h
    injection h with h
    subst h
  case devCtrlReset => exact .inr reset
  case functionLevelReset => exact .inr reset
  case powerOn => exact .inr reset
  all_goals left
  case start => exact State.laneCmd_tracks _ _ _
  case continueLane => exact State.laneCmd_tracks _ _ _
  case resume => exact State.laneCmd_tracks _ _ _
  case skip => exact State.laneCmd_tracks _ _ _
  case abandon => exact State.laneCmd_tracks _ _ _
  case inspect => exact State.laneCmd_tracks _ _ _
  case refusedAction => exact State.laneCmd_tracks _ _ _
  case noticePendWrite => exact (State.Keeps.writePend _ _).oneTrack.onLinkAll
  case noticeMaskWrite => exact (State.Keeps.writeMask _ _).oneTrack.tracks
  case dirBaseWrite => exact (State.Keeps.writeDirBase _ _ _).oneTrack.tracks
  case holdSet =>
    refine OneTrack.tracks (State.Keeps.oneTrack ?_)
    split <;> exact State.Keeps.of rfl rfl rfl
  case holdClear => exact Tracks.ite fun _ => (State.holdCleared_oneTrack _).onLinkAll
  case registerWriteIgnored => exact (OneTrack.refl _).tracks
  case entryReadComplete => exact (State.entryRead_oneTrack _ _ _).onLink
  case entryReadFail => exact (State.entryFailed_oneTrack _ _).onLink
  case recordHeaderReadComplete => exact (State.headerRead_oneTrack _ _ _).onLink
  case recordBodyReadComplete => exact (State.bodyRead_oneTrack _ _ _).onLink
  case recordFetchReadFail => exact (State.fetchFailed_oneTrack _ _).onLink
  case gatePollComplete => exact (State.pollDone_oneTrack _ _ _).onLink
  case gatePollFail => exact (State.pollFailed_oneTrack _ _).onLink
  case pollPhaseExpiry => exact Tracks.ite fun _ => (State.endPoll_oneTrack _ _ _).onLink
  case gateTimeout => exact Tracks.ite fun _ => (State.failRecord_oneTrack _ _ _).onLink
  case readTimeout => exact State.readTimeout_tracks _ _
  case lateCompletion => exact (OneTrack.refl _).tracks
  case intakeReadComplete => exact (State.intakeDone_oneTrack _ _ _).onLink
  case intakeReadFail => exact (State.intakeFailed_oneTrack _ _).onLink
  case timingEngineGrant => exact (State.Keeps.grantTiming _).oneTrack.onLinkOf
  case mixEngineGrant => exact (State.Keeps.grantMix _).oneTrack.onLinkOf
  case cueUnitEnd => exact (State.cueUnitEnds_oneTrack _).onLinkOf
  case clipUnitEnd => exact (State.clipUnitEnds_oneTrack _).onLinkOf
  case segmentWriteAccepted => exact (State.segmentWritten_oneTrack _).onLinkOf
  case segmentWriteRefused => exact (State.Keeps.segmentRefused _).oneTrack.onLinkOf
  case compareReadComplete => exact (State.segmentCompared_oneTrack _ _).onLinkOf
  case compareReadFail => exact (State.Keeps.compareFailed _).oneTrack.onLinkOf
  case blockReadComplete => exact (State.Keeps.blockRead _ _ _).oneTrack.onLink
  case blockReadFail => exact (State.Keeps.blockFailed _ _).oneTrack.onLink
  case staleReadEnd => exact (State.Keeps.staleEnded _ _).oneTrack.onLink
  case clipSampleReadComplete => exact (State.Keeps.clipsRead _ _ _).oneTrack.onLinkOf
  case clipSampleReadFail => exact (State.Keeps.clipsFailed _ _).oneTrack.onLinkOf
  case mixOutputWriteAccepted => exact (State.blockWritten_oneTrack _ _).onLinkOf
  case mixOutputWriteRefused => exact (State.Keeps.blockRefused _ _).oneTrack.onLinkOf
  case retirementWriteAccepted => exact (State.writeAccepted_oneTrack _ _).onLink
  case statusWriteRefused => exact (State.statusRefused_oneTrack _ _).onLink
  case resumePointWriteRefused => exact (State.resumePointRefused_oneTrack _ _).onLink
  case restStateWriteRefused => exact (State.restRefused_oneTrack _ _).onLink
  case linkResumePointRefused => exact (State.linkRefused_oneTrack _ _).onLink
  case stopResumePointRefused => exact (State.stopRefused_oneTrack _ _).onLink
  case teardownWriteRefused => exact (State.teardownWriteRefused_oneTrack _ _).onLink
  case noticeSlotWriteAccepted => exact (State.slotAccepted_oneTrack _ _).onLink
  case noticeSlotWriteRefused => exact (State.slotRefused_oneTrack _ _).onLink
  case msiWriteRefused => exact (OneTrack.refl _).tracks
  case abandonTeardown => exact (State.teardown_oneTrack _ _).onLink
  case holdDrainComplete =>
    refine OneTrack.tracks (State.Keeps.oneTrack ?_)
    split <;> exact State.Keeps.of rfl rfl rfl
  case inspectEntryReadComplete => exact (State.Keeps.onLinkInspect (State.Keeps.inspectRead _ _) _).oneTrack.tracks
  case inspectEntryReadFail => exact (State.Keeps.inspectReadFailed _).oneTrack.tracks
  case inspectDone => exact (State.Keeps.inspectWritten _).oneTrack.tracks
  case inspectFailed => exact (State.Keeps.inspectRefused _).oneTrack.tracks

end Sys2Proof.Machine
end

