-- ==== Sys2Proof/Tests/Slice0.lean ====
section
/-! SUPPORT. Tests, each with the manual's own figures for its expected result, and a witness for the hypotheses of every
statement. -/

namespace Sys2Proof.Tests

open Sys2Proof Sys2Proof.Machine

-- One theorem at a time: each `decide +kernel` waits for the kernel, and many waiting at once exhaust the threads.
set_option Elab.async false

/-! ## Ill-formed commands, one for each check of WellFormed -/

theorem test_wf_action_code : (Instr.refusedAction 0 6).wellFormed = false := by decide
theorem test_wf_write_size : (Instr.registerWriteIgnored 0x008 5 0).wellFormed = false := by decide
theorem test_wf_write_taken : (Instr.registerWriteIgnored 0x008 4 0).wellFormed = false := by decide
theorem test_wf_write_dev_stat : (Instr.registerWriteIgnored 0x018 4 0).wellFormed = true := by decide
theorem test_wf_body_empty : (Instr.recordBodyReadComplete 0 []).wellFormed = false := by decide
theorem test_wf_body_long : (Instr.recordBodyReadComplete 0 (List.replicate 497 0)).wellFormed = false := by
  decide +kernel
theorem test_wf_intake_count : (Instr.intakeReadComplete 0 (List.replicate 9 ⟨0, []⟩)).wellFormed = false := by decide
theorem test_wf_intake_text : (Instr.intakeReadComplete 0 [⟨0, List.replicate 242 0⟩]).wellFormed = false := by
  decide +kernel
theorem test_wf_compare_short : (Instr.compareReadComplete (List.replicate 47 0)).wellFormed = false := by
  decide +kernel
theorem test_wf_compare_long : (Instr.compareReadComplete (List.replicate 16433 0)).wellFormed = false := by
  rw [Instr.wellFormed, List.length_replicate]; decide
theorem test_wf_block_long : (Instr.blockReadComplete 0 (List.replicate 16385 0)).wellFormed = false := by
  rw [Instr.wellFormed, List.length_replicate]; decide
theorem test_wf_runs_none : (Instr.clipSampleReadComplete 0 []).wellFormed = false := by decide
theorem test_wf_run_long : (Instr.clipSampleReadComplete 0 [List.replicate 2049 0]).wellFormed = false := by
  decide +kernel

/-! ## Register writes as commands (R163 to R166) -/

/-- R165: lane in bits 3:0, action in bits 11:8. -/
theorem test_decode_lane_cmd : decodeWrite32 0x008 4 0x0307 = .resume 7 ∧ decodeWrite32 0x008 4 0x0707 = .refusedAction 7 7
    ∧ decodeWrite32 0x008 3 0x0307 = .registerWriteIgnored 0x008 3 0x0307 := by decide

/-- R163, R166: RESET takes no HOLD bit with it; a 64-bit write is two writes, the lower address first. -/
theorem test_decode_dev_ctrl : decodeWrite32 0x014 4 3 = .devCtrlReset ∧ decodeWrite32 0x014 4 1 = .holdSet
    ∧ decodeWrite32 0x014 4 0 = .holdClear
    ∧ decodeWrite64 0x000 0x1_00000400 = [.dirBaseWrite .lo 0x400, .dirBaseWrite .hi 1]
    ∧ decodeWrite64 0xFFC 0x1_00000400 = [.registerWriteIgnored 0xFFC 4 0x400] := by decide

/-! ## The manual's worked figures -/

/-- Parameters of section 1.11. -/
def subPar : Params :=
  { Params.zero with ns := 10000000, ds := 1, rOut := 24000, grid := 1001, segDur := 144000, cps10 := 170, quota := 3 }

/-- Section 1.3, rows 1, 3, 4, 5. -/
theorem test_convert : convertTime subPar 125000000 = 300000
    ∧ convertTime { Params.zero with ns := 24000, ds := 1001, rOut := 1000 } 250 = 10427
    ∧ convertTime { Params.zero with ns := 48000, ds := 1, rOut := 1000 } 24 = 1
    ∧ convertTime { Params.zero with ns := 48000, ds := 1, rOut := 1000 } 23 = 0 := by decide

/-- Section 1.3, the offsets and the clamp after the table. -/
theorem test_offset : placeTime { subPar with offset := -10000 } 125000000 = (290000, false)
    ∧ placeTime { subPar with offset := -300001 } 125000000 = (-1, false)
    ∧ placeTime { Params.zero with ns := 1, ds := 1, rOut := 48000 } (2 ^ 40) = (281474976710655, true) := by decide

/-- Section 1.5. -/
theorem test_snap : snapTime 1001 300000 = (300300, false) ∧ snapTime 1001 336000 = (336336, false)
    ∧ snapTime 1001 500 = (0, false) ∧ snapTime 1000 1500 = (2000, false)
    ∧ snapTime 1000000 281474976710655 = (281474976000000, true) := by decide

/-- Section 1.9. -/
theorem test_required : requiredTicks subPar 42 = 59295 ∧ requiredTicks { subPar with dMin := 72072 } 42 = 72072
    ∧ requiredTicks { subPar with dMin := 24024 } 20 = 28236 ∧ requiredTicks subPar 17 = 24000
    ∧ requiredTicks { subPar with cps10 := 0, dMin := 12012 } 42 = 12012 := by decide

/-- Section 1.9, third row: 20 two-byte characters and a line feed. -/
theorem test_char_count : charCount ((List.replicate 20 [0xC3, 0xA9]).flatten ++ [0x0A]) = 20 := by decide

/-- A cue of `chars` single-byte characters, its times in units of 100 ns. -/
def cueOf (slot start stop chars : Nat) : RawCue :=
  { fixed := BitVec.ofNat 128 (start + 2 ^ 48 * stop + 2 ^ 96 * slot + 2 ^ 112 * chars)
    text := List.replicate chars 0x41 }

/-- The unit of a lane with parameters p on a batch, with an empty store, last_start 0 and 2,896 free slots. -/
def workOf (p : Params) (h : Nat) (batch : List RawCue) : CueWork :=
  passBatch p h { store := [], lastStart := 0, free := 2896, notes := [], consumed := 0, cursor := 0, refused := false }
    batch

/-- The batch of section 2.6. -/
def batch26 : List RawCue :=
  [cueOf 0 125000000 150000000 42, cueOf 1 130000000 140000000 10, cueOf 0 140000000 160000000 17,
   cueOf 2 100000000 110000000 5, cueOf 3 150000000 150200000 0, cueOf 1 150000000 170000000 17]

/-- Section 2.6: store, last_start, free count, notes, consumed cues, refusal. -/
theorem test_batch : ((workOf subPar 0 batch26).store.map (fun e => (e.start, e.stop, e.slot.toNat, e.latest)) =
      [(300300, 336336, 0, false), (312312, 336336, 1, true), (336336, 384384, 0, true)])
    ∧ (workOf subPar 0 batch26).lastStart = 360360 ∧ (workOf subPar 0 batch26).free = 2893
    ∧ (workOf subPar 0 batch26).notes = [.trimmed, .fastRead, .outOfOrder, .emptyCue]
    ∧ (workOf subPar 0 batch26).consumed = 5 ∧ (workOf subPar 0 batch26).refused = true := by decide +kernel

/-- The batch of section 2.7. -/
def batch27 : List RawCue :=
  [cueOf 0 115000000 130000000 10, cueOf 0 120000000 135000000 8, cueOf 0 120000000 140000000 20]

/-- Section 2.7: late clamp, and a displaced predecessor. -/
theorem test_displacement :
    ((workOf { subPar with quota := 8 } 288000 batch27).store.map (fun e => (e.start, e.stop)) =
      [(288000, 288288), (288288, 336336)])
    ∧ (workOf { subPar with quota := 8 } 288000 batch27).lastStart = 288288
    ∧ (workOf { subPar with quota := 8 } 288000 batch27).free = 2894
    ∧ (workOf { subPar with quota := 8 } 288000 batch27).notes = [.late, .trimmed, .fastRead, .trimmed]
    ∧ (workOf { subPar with quota := 8 } 288000 batch27).consumed = 3 := by decide +kernel

/-- A store entry with single-byte text. -/
def entryOf (start stop : Nat) (slot : BitVec 3) (chars : Nat) : CueEntry :=
  { start := start, stop := stop, slot := slot, style := 5, forced := false, text := List.replicate chars 0x41
    chars := chars, continued := false, latest := true }

/-- X and Y of section 3.7. -/
def storeXY : List CueEntry := [entryOf 420420 456456 0 12, entryOf 432432 444444 1 8]

/-- Section 11.8: the bytes of segment 3, its offsets counted from the segment's start. -/
theorem test_segment_bytes : let b := segmentBytes subPar 3 storeXY
    b.length = 104 ∧ leField b 0 4 = 0x24400001 ∧ leField b 4 4 = 104 ∧ leField b 8 2 = 2 ∧ leField b 10 2 = 0
    ∧ leField b 12 4 = 24000 ∧ leField b 16 8 = 3 ∧ leField b 24 8 = 432000 ∧ leField b 32 4 = 144000
    ∧ leField b 48 4 = 0 ∧ leField b 52 4 = 24456 ∧ leField b 56 1 = 1 ∧ leField b 60 2 = 12
    ∧ leField b 80 4 = 432 ∧ leField b 84 4 = 12444 ∧ leField b 88 1 = 0 ∧ leField b 89 1 = 1 := by decide +kernel

/-- Section 3.7: segment 2 has X alone, 132,420 to 144,000, and CONTINUES. -/
theorem test_segment_continues : let b := segmentBytes subPar 2 storeXY
    b.length = 80 ∧ leField b 48 4 = 132420 ∧ leField b 52 4 = 144000 ∧ leField b 56 1 = 2 := by decide +kernel

/-- The clip of section 4.6. -/
def clip46 : ClipEntry :=
  { pcm := 0, len := 48000, start := 96000, gain := 16384, duck := 4096, attack := 4800, release := 9600, mask := 3 }

/-- The second clip of section 4.7. -/
def clip47 : ClipEntry :=
  { pcm := 0, len := 24000, start := 140000, gain := 16384, duck := 8192, attack := 2000, release := 4000, mask := 3 }

/-- Section 4.6. -/
theorem test_envelope : [91199, 91200, 92400, 93600, 95999, 96000, 143999, 144000, 146400, 153599, 153600].map
      clip46.envelope = [16384, 16384, 13312, 10240, 4099, 4096, 4096, 4096, 7168, 16382, 16384] := by decide

/-- Section 4.7, and the clip whose attack begins before sample 0. -/
theorem test_overlap : [139000, 142000, 146400, 150000, 165000].map (duckEnvelope [clip46, clip47]) =
      [4096, 4096, 7168, 8192, 10240]
    ∧ ({ clip46 with start := 1000 } : ClipEntry).envelope 0 = 6656 := by decide

/-- The lane of section 4.8. -/
def lane48 (table : List ClipEntry) : Lane :=
  { Lane.reset with
    kind := .description, mixPos := 96000, table := table
    par := { Params.zero with ns := 48000, ds := 1, rOut := 48000, quota := 5, chans := 2, duckMask := 3 } }

/-- A clip body of section 4.8. -/
def clipBody (s stop a r d : Nat) : ClipBody :=
  { pcm := 0, time := s, mask := 3, len := stop - s, gain := 16384, duck := d, attack := a, release := r }

/-- Section 4.8: c2 is dropped LATE, c3 inserted with LATE. -/
theorem test_clip_late : clipUnit (lane48 []) (clipBody 90000 94000 2400 2400 4096) 11 = .dropped [.late]
    ∧ clipUnit (lane48 []) (clipBody 97000 117000 2400 2400 8192) 11 =
      .inserted ((clipBody 97000 117000 2400 2400 8192).entry 97000) [.late] := by decide

/-- Section 5.5: the two channels of the frame, and channel 1 with channel mask 0x01. -/
theorem test_mix_frame : mixOne (lane48 []).par [clip46] [(clip46, [15000])] [20000, -12000] 100000 0 0 = 327680000
    ∧ mixOne (lane48 []).par [clip46] [(clip46, [15000])] [20000, -12000] 100000 0 1 = 196608000
    ∧ mixOne (lane48 []).par [clip46] [({ clip46 with mask := 1 }, [15000])] [20000, -12000] 100000 0 1 = -49152000 := by
  decide

/-- Section 5.5: rounding and saturation. -/
theorem test_round : [327680000, 196608000, 819200000, -819200000, -24576, -8192, 8192, -49152].map
      (fun a => (saturate (roundAcc a), isClipped a)) =
    [(20000, false), (12000, false), (32767, true), (-32768, true), (-1, false), (0, false), (1, false), (-3, false)] := by
  decide

/-- Section 5.6: the clip's run in the block from 143,360. -/
theorem test_clip_run : runFirst clip46 143360 = 47360 ∧ runCount clip46 143360 1024 = 640 := by decide

/-- Section 7.8: with the pointer at 9 and lanes 12, 3, 9 waiting, 12 is granted; at 12, lane 3. -/
theorem test_round_robin :
    let s := { ((State.reset.setLane 12 { Lane.reset with state := .queued }).setLane 3
      { Lane.reset with state := .queued }).setLane 9 { Lane.reset with state := .queued } with
        timing := { TimingEngine.reset with ptr := 9 } }
    s.timingPick = some 12
      ∧ ({ s.setLane 12 Lane.reset with timing := { TimingEngine.reset with ptr := 12 } } : State).timingPick = some 3 := by
  decide +kernel

/-! ## States with one lane in a given context -/

/-- The state after reset, with bus mastering enabled. -/
def mastering : State := { State.reset with bus := { BusConfig.reset with busMaster := true } }

/-- The state after reset but for lane 0's context, with bus mastering enabled. -/
def onLane (l : Lane) : State := mastering.setLane 0 l

theorem lane_onLane (l : Lane) (i : LaneId) : (onLane l).lane i = if i = 0 then l else Lane.reset := by
  by_cases h : i = 0
  · subst h; simp [onLane]
  · rw [onLane, State.lane_setLane_ne _ _ h, if_neg h]; revert i; decide

/-- A header. -/
def hdrOf (k : RecKind) (len : Nat) : Header := { kind := some k, notify := false, gated := false, len := len, tag := 0 }

/-- A record at address 0x1000, first executed. -/
def recOf (k : RecKind) (body : List Byte) : Record :=
  { addr := 0x1000, hdr := some (hdrOf k (16 + body.length)), body := body, ex := ExecState.zero, owed := none }

/-- A lane in a state, with a current record. -/
def laneAt (st : LaneState) (c : Record) : Lane := { Lane.reset with state := st, cur := some c }

/-- A lane in a state, with a transfer. -/
def laneIO (st : LaneState) (io : LaneIO) : Lane := { Lane.reset with state := st, io := io }

/-- A write sequence that has begun. -/
def seqOf (k : SeqKind) (steps : List SeqStep) : LaneIO := .seq { kind := k, steps := steps, begun := true, failed := false }

/-- A result. -/
def resOf (o : RecOutcome) : RecResult := { outcome := o, reason := .none, notes := 0, progress := 0 }

/-- A notice. -/
def noteOf : Notice :=
  { addr := 0x1000, tag := 0, outcome := .done, reason := .none, notes := 0, progress := 0, rest := .running }

/-! ## Steps of the worked sequences -/

/-- Section 8.8, third and fourth row: a mask rise over a set bit asks for one MSI; the clear that releases the deferred
notice leaves the bit 0 while its write is in flight. -/
theorem test_mask_and_clear :
    let s := { onLane { Lane.reset with state := .noticeWait, deferred := some noteOf } with pend := 1 }
    (s.writeMask 1).msiAsked = 1 ∧ (s.writeMask 2).msiAsked = 0 ∧ (s.writePend 1).pend = 0
      ∧ ((s.writePend 1).lane 0).deferred = none ∧ ((s.writePend 1).lane 0).slot.isSome = true := by decide +kernel

/-- Section 8.8, fourth row: the slot write is accepted, the bit rises again, one MSI, and the lane is in FETCHING. -/
theorem test_released :
    let w : SlotWrite := { notice := noteOf, own := false, setsBit := true }
    let s := { onLane { Lane.reset with state := .noticeWait, slot := some w } with mask := 1 }
    (s.slotAccepted 0).pend = 1 ∧ (s.slotAccepted 0).msiAsked = 1 ∧ ((s.slotAccepted 0).lane 0).state = .fetching := by
  decide +kernel

/-- Section 7.9, order A: a STOP met with continue_pending set makes no write and is fetched again. -/
theorem test_stop_continued :
    let s := (onLane { laneAt .fetching (recOf .stop []) with contPending := true }).execute 0
    (s.lane 0).state = .fetching ∧ (s.lane 0).contPending = false ∧ (s.lane 0).io = .read (.header false) true
      ∧ (s.lane 0).next = some 0x1000 := by decide +kernel

/-- Section 7.9, order B: the STOP's resume point and rest state STOPPED. -/
theorem test_stop :
    let s := (onLane (laneAt .fetching (recOf .stop []))).execute 0
    (s.lane 0).state = .stopped ∧ (s.lane 0).io =
      seqOf .stop [.write (.resumePoint 0x1000) 0x18 [0, 0x10, 0, 0, 0, 0, 0, 0],
        .write (.restState .stopped) 0x20 [2, 0, 0, 0, 0, 0, 0, 0]] := by decide +kernel

/-- Section 9.7: a resume point refused after a final status was accepted leaves an owed retirement, accepted, and a notice
FAILED HOST_ACCESS; no rest state is written when HALTED was the last written. -/
theorem test_resume_point_refused :
    let l : Lane := { laneAt .retiring (recOf .mark []) with
      restLast := .halted, io := seqOf (.retire (resOf .done)) [.write (.resumePoint 0x1010) 0x18 []] }
    let t := (onLane l).resumePointRefused 0
    (t.lane 0).haltReason = .hostAccess
      ∧ (t.lane 0).cur.bind Record.owed = some { res := resOf .done, accepted := true }
      ∧ (t.lane 0).slot.map (fun w => (w.notice.outcome, w.notice.reason)) = some (.failed, .hostAccess) := by
  decide +kernel

/-- R171, R166: after a device reset under HOLD, DEV_STAT reads 0. -/
theorem test_reset_clears : ({ State.reset with dev := .held, mask := 5 } : State).deviceReset.readReg 0x018 = 0
    ∧ ({ State.reset with dev := .held, mask := 5 } : State).deviceReset.mask = 0 := by decide +kernel

/-- R167, R153: without bus mastering the entry read of a START fails in the same step, and its halt's rest state and notice
are refused: the lane halts HOST_ACCESS, NOTICE_PEND has its bit, and the link has accepted nothing. -/
theorem test_no_bus_mastering :
    let t := { State.reset with dirBase := 0x400 }.laneCmd 1 1
    (t.lane 1).state = .halted ∧ (t.lane 1).haltReason = .hostAccess ∧ (t.lane 1).restLast = .idle ∧ t.pend = 2
      ∧ t.wire = [.torn 0x460 [3, 0, 0, 0, 0, 0, 0, 0]] ∧ t.msiAsked = 0 := by decide +kernel

/-- R130, R167: without bus mastering an INSPECT ends with INSPECT_FAILED in the same step. -/
theorem test_inspect_no_bus_mastering : (State.reset.laneCmd 0 6).port.job = none
    ∧ (State.reset.laneCmd 0 6).port.lastResult = .inspectFailed := by decide +kernel

/-- R167, R59: the enable is cleared while a segment is written for the lane: the EMIT fails HOST_ACCESS, and so does its
retirement. -/
theorem test_bus_mastering_cleared :
    let s := { onLane (laneAt .working (recOf .emit (leBytes 8 0 ++ leBytes 8 0x2000 ++ leBytes 8 0))) with
      timing := { owner := some 0, ptr := 0, unit := .segWrite, buffer := [1, 2] } }
    let t := s.setBusMaster false
    t.timing.owner = none ∧ (t.lane 0).state = .halted ∧ (t.lane 0).haltReason = .hostAccess
      ∧ t.wire.map (fun w => match w with | .torn a _ => a.toNat | _ => 0) = [0x2000, 0x1028, 0x20] := by decide +kernel

/-- A CUES body: one cue in a block of 15 bytes. -/
def shortBody : List Byte := leBytes 8 0x2000 ++ leBytes 4 15 ++ leBytes 2 1 ++ leBytes 2 0

/-- R27: the first cue's fixed part passes the byte length of 15: the record fails BAD_PARAM with nothing read. -/
theorem test_fixed_part_overruns :
    let t := (onLane { laneAt .fetching (recOf .cues shortBody) with kind := .subtitle, par := subPar }).execute 0
    (t.lane 0).state = .retiring ∧ (t.lane 0).haltReason = .badParam ∧ t.ownReads 0 = [] := by decide +kernel

/-- R154: the HALTED status of a CLOSE is refused: no owed retirement is kept. -/
theorem test_close_unwritten :
    let c := { recOf .closeRec [] with owed := some { res := { resOf .noted with notes := 0x2000 }, accepted := false } }
    let l : Lane := { laneAt .retiring c with
      io := seqOf (.retire { resOf .halted with reason := .noteHalt }) [.write .status 0x1008 []] }
    (((onLane l).statusRefused 0).lane 0).cur.map Record.owed = some none := by decide +kernel

/-! ## Witnesses: hypotheses of the statements that can be met -/

/-- EveryCommandCompletes. -/
theorem witness_everyCommandCompletes : ∃ (c : Instr) (s : State), (∀ v, c ≠ .noticeMaskWrite v)
    ∧ (∀ half v, c ≠ .dirBaseWrite half v) ∧ s.dirBase.extractLsb' 0 10 = 0 :=
  ⟨.holdSet, State.reset, nofun, nofun, by decide⟩

/-- OtherLanesKept. -/
theorem witness_otherLanesKept : ∃ (c : Instr) (s t : State) (i j : LaneId),
    exec c s = .next t ∧ addressee c = some i ∧ j ≠ i :=
  ⟨.start 15, State.reset, State.reset.laneCmd 15 1, 15, 0, rfl, rfl, by decide⟩

/-- A subtitle lane with two cues, and the state of the part with it. -/
def storeLane : Lane :=
  { Lane.reset with
    state := .stopped, kind := .subtitle, par := subPar, store := storeXY, lastStart := 432432
    cur := some { recOf .mark [] with ex := { ExecState.zero with notes := 0x3FFF } }
    counters := Vector.replicate 14 4294967295, segTotal := 4294967295, frmTotal := 4294967295
    pf := { Prefetch.reset with queue := [.errored 0, .errored 1024, .errored 2048], paused := true } }

/-- The state of the part with that lane. -/
def storeState : State := { onLane storeLane with cueFree := 4094 }

theorem lane_storeState (i : LaneId) : storeState.lane i = if i = 0 then storeLane else Lane.reset :=
  lane_onLane storeLane i

/-- LaneStatesKept and PoolsKept: a sound state that holds cues. -/
theorem witness_sound : storeState.Shapely ∧ storeState.PoolsWhole := by
  refine ⟨⟨by unfold State.EnginesApart; decide, fun i => ?_⟩, by unfold State.PoolsWhole; decide +kernel⟩
  rw [lane_storeState]
  split <;> simp [Lane.TransferFits, Lane.PollFits, Lane.BlockReadFits, Lane.DeferredFits, Lane.EngineFits,
    storeLane, Lane.reset, Gate.reset, Prefetch.reset, State.ownsEngine, storeState, State.mixEng, onLane, mastering,
    State.setLane, State.reset, TimingEngine.reset, MixEngine.reset, Vector.get_eq_getElem]

/-- CueStoresKept, with a store of two entries. -/
theorem witness_cueStores : storeLane.StoreOrdered ∧ storeLane.SlotsApart := by
  unfold Lane.StoreOrdered Lane.SlotsApart; decide +kernel

/-- ClipTablesKept, with overlapping bodies. -/
theorem witness_clipTables : ({ lane48 [clip46, clip47] with mixPos := 0 } : Lane).TableSound := by
  refine ⟨by decide, by decide, fun n => ?_, by decide⟩
  exact le_trans (List.length_filter_le _ _) (by decide)

/-- ProgrammeQueuesKept at 3 blocks, CountersKept and NoteBitsKept at their largest values. -/
theorem witness_ranges : storeLane.pf.Sound ∧ storeLane.CountersInRange ∧ storeLane.NoteBitsInRange := by
  refine ⟨⟨by decide, by decide, ?_⟩, by unfold Lane.CountersInRange; decide +kernel, ?_⟩
  · intro off k h; cases h
  · simp [Lane.NoteBitsInRange, NotesInRange, storeLane, recOf, ExecState.zero, Lane.reset, LaneIO.seq?]

/-- HoldBeginsNothing. -/
theorem witness_holdBeginsNothing : ∃ (c : Instr) (s t : State), s.hold = true ∧ c ≠ .holdClear ∧ exec c s = .next t :=
  ⟨.start 0, { State.reset with dev := .holding }, _, rfl, by decide, rfl⟩

/-- StartTaken. -/
theorem witness_startTaken : State.reset.port.job = none ∧ (State.reset.lane 15).state = .idle := by decide

/-- ContinueTaken: a running lane, a STOPPED one. -/
theorem witness_continueTaken : (onLane (laneIO .noticeWait .idle)).port.job = none
    ∧ ((onLane (laneIO .noticeWait .idle)).lane 0).state.running = true
    ∧ ((onLane (laneIO .stopped .idle)).lane 0).state = .stopped := by decide

/-- ResumeTaken and SkipTaken. -/
theorem witness_resumeTaken : let s := onLane (laneAt .halted (recOf .mark []))
    s.port.job = none ∧ (s.lane 0).state = .halted ∧ (s.lane 0).cur = some (recOf .mark []) := ⟨rfl, rfl, rfl⟩

/-- AbandonTaken: each of the three cases. -/
theorem witness_abandonTaken : ((onLane (laneIO .fetching .idle)).lane 0).state.running = true
    ∧ ((onLane (laneIO .stopped .idle)).lane 0).state = .stopped
    ∧ ((onLane (laneIO .halted .idle)).lane 0).state = .halted
    ∧ (onLane (laneIO .halted .idle)).port.job = none := ⟨rfl, rfl, rfl, rfl⟩

/-- InspectTaken: a lane at rest, a running lane under HELD. -/
theorem witness_inspectTaken : State.reset.port.job = none ∧ (State.reset.lane 0).state = .idle
    ∧ let s := { onLane (laneIO .working .idle) with dev := .held }
      s.port.job = none ∧ (s.lane 0).state.running = true ∧ s.dev = .held := ⟨rfl, rfl, rfl, rfl, rfl⟩

/-- An INSPECT in progress. -/
def jobOf (phase : InspectPhase) : InspectJob := { base := 0x400, snap := storeLane.snapshot 0, phase := phase }

/-- A state with an INSPECT in progress. -/
def inspecting (phase : InspectPhase) : State :=
  { mastering with port := { CmdPort.reset with job := some (jobOf phase) } }

/-- R169: an INSPECT's read of the entry delays HELD; its writes do not. -/
theorem test_inspect_drains : (inspecting .entryRead).quiet = false ∧ (inspecting (.writing 8 [])).quiet = true := by
  decide +kernel

/-- ActionsRefused: a busy port; the codes 0, 7 and 15; each refused state. -/
theorem witness_actionsRefused : (inspecting .entryRead).port.job ≠ none ∧ State.reset.port.job = none
    ∧ ((0 : BitVec 4).toNat = 0 ∨ 7 ≤ (0 : BitVec 4).toNat) ∧ ((7 : BitVec 4).toNat = 0 ∨ 7 ≤ (7 : BitVec 4).toNat)
    ∧ ((15 : BitVec 4).toNat = 0 ∨ 7 ≤ (15 : BitVec 4).toNat)
    ∧ ((onLane (laneIO .abandoning .idle)).lane 0).state ≠ .idle
    ∧ (State.reset.lane 0).state.running = false ∧ (State.reset.lane 0).state ≠ .stopped
    ∧ (State.reset.lane 0).state ≠ .halted
    ∧ (((onLane (laneIO .halted .idle)).lane 0).state ≠ .halted ∨ ((onLane (laneIO .halted .idle)).lane 0).cur = none)
    ∧ ((State.reset.lane 0).state = .idle ∨ (State.reset.lane 0).state = .abandoning)
    ∧ ((onLane (laneIO .gated .idle)).lane 0).state.running = true
    ∧ (onLane (laneIO .gated .idle)).dev ≠ .held := by
  refine ⟨nofun, rfl, by decide, by decide, by decide, ?_, rfl, ?_, ?_, .inr rfl, .inl rfl, rfl, ?_⟩ <;> decide

/-- A write of a rest state. -/
def restWrite : SeqStep := .write (.restState .halted) 0x420 [3, 0, 0, 0, 0, 0, 0, 0]

/-- A sequence that waits for HOLD to be cleared. -/
def waiting (k : SeqKind) (steps : List SeqStep) : WriteSeq := { kind := k, steps := steps, begun := false, failed := false }

/-- HoldChanges: under HOLD, each of the five forms of a lane's transfer; a waiting notice with a slot write of the lane in
flight, and without one. -/
theorem witness_holdChanges : State.reset.dev = .run ∧ ({ State.reset with dev := .holding } : State).dev ≠ .run
    ∧ (State.reset.lane 0).io = .idle
    ∧ ((onLane (laneIO .fetching (.read .entry false))).lane 0).io = .read .entry false
    ∧ ((onLane (laneIO .retiring (seqOf .rehalt [restWrite]))).lane 0).io = seqOf .rehalt [restWrite]
    ∧ ((onLane (laneIO .retiring (.seq (waiting .rehalt [restWrite])))).lane 0).io = .seq (waiting .rehalt [restWrite])
    ∧ (∀ j, State.reset.port.job = some j → j.phase ≠ .entryRead)
    ∧ let l := laneIO .retiring (.seq (waiting .entryHalt [.notice noteOf]))
      ((onLane l).lane 0).io = .seq (waiting .entryHalt [.notice noteOf]) ∧ ((onLane l).lane 0).state = .retiring
        ∧ ((onLane l).lane 0).slot = none
        ∧ ((onLane { l with slot := some { notice := noteOf, own := false, setsBit := true } }).lane 0).slot ≠ none :=
  ⟨rfl, nofun, rfl, rfl, rfl, rfl, nofun, rfl, rfl, rfl, nofun⟩

/-- ResetsTaken: a status, a slot, a segment, an output block and an image in flight may be torn. -/
theorem witness_resetsTaken :
    let s := { ((((inspecting (.writing 0x9000 [1])).setLane 0 (laneIO .retiring (seqOf .rehalt [restWrite]))).setLane 1
        { laneIO .noticeWait .idle with slot := some { notice := noteOf, own := false, setsBit := true } }).setLane 2
        (laneAt .working (recOf .emit (leBytes 8 0 ++ leBytes 8 0x2000 ++ leBytes 8 0)))).setLane 3
        { laneAt .working (recOf .mix (leBytes 8 0 ++ leBytes 8 0x4000 ++ leBytes 8 2)) with
          pf := { Prefetch.reset with queue := [.read 0 2 [1, 2]] } } with
        timing := { owner := some 2, ptr := 2, unit := .segWrite, buffer := [2] } }.setMix 1
          { owner := some 3, view := [], acc := [16384], phase := .writing }
    s.tornAtReset = [.torn 0x420 [3, 0, 0, 0, 0, 0, 0, 0], .torn 0x68 noteOf.bytes, .torn 0x2000 [2], .torn 0x4000 [1, 0],
      .torn 0x9000 [1]] := by decide +kernel

/-- SharedFormats: a record that is an EMIT and one that is not; no first difference, and one; offsets beside the
registers. -/
theorem witness_sharedFormats : (recOf .mark []).kind ≠ some .emit ∧ (recOf .emit []).kind = some .emit
    ∧ ExecState.zero.firstDiff = none ∧ ({ ExecState.zero with firstDiff := some (3, 80) } : ExecState).firstDiff = some (3, 80)
    ∧ 0x01C ∉ registerOffsets ∧ 0xFFC ∉ registerOffsets ∧ 1 ∉ registerOffsets := by
  decide

/-- NothingChanges: writes that are ignored, by size, by DEV_STAT and by offset. -/
theorem witness_nothingChanges : writeIgnored 0x008 3 = true ∧ writeIgnored 0x018 4 = true ∧ writeIgnored 0xFFC 4 = true
    ∧ writeIgnored 0x014 4 = false := by decide

/-- RetirementBegins, and the first clauses about records. -/
theorem witness_retirementBegins : ((onLane (laneAt .fetching (recOf .mark []))).lane 0).cur = some (recOf .mark []) := rfl

/-- A record with an owed retirement. -/
def owedRec : Record := { recOf .mark [] with owed := some { res := resOf .done, accepted := false } }

/-- SequencesRun: a write in flight, a waiting sequence, a notice, no step left, an owed retirement. -/
theorem witness_sequencesRun :
    ((onLane (laneIO .retiring (seqOf .rehalt [restWrite]))).lane 0).io = seqOf .rehalt [restWrite]
    ∧ (waiting .rehalt []).begun = false
    ∧ ((onLane (laneIO .retiring (seqOf .rehalt [.notice noteOf]))).lane 0).io = seqOf .rehalt [.notice noteOf]
    ∧ ((onLane (laneIO .retiring (seqOf .rehalt []))).lane 0).io = seqOf .rehalt [] ∧ SeqKind.rehalt ≠ .teardown
    ∧ ((onLane (laneAt .fetching owedRec)).lane 0).cur = some owedRec
    ∧ owedRec.owed = some { res := resOf .done, accepted := false } ∧ (recOf .mark []).owed = none :=
  ⟨rfl, rfl, rfl, rfl, nofun, rfl, rfl, rfl⟩

/-- EntryReadEnds. -/
theorem witness_entryReadEnds : let l := laneIO .fetching (.read .entry true)
    ((onLane l).lane 0).io = .read .entry true ∧ ((onLane l).lane 0).state ≠ .abandoning
      ∧ (onLane l).bus.busMaster = true := ⟨rfl, nofun, rfl⟩

/-- The bits of a header: kind code, flags, length. -/
def bitsOf (code flags len : Nat) : BitVec 128 := BitVec.ofNat 128 (code + 256 * flags + 65536 * len)

/-- A lane in FETCHING with a header read issued, opened for a kind. -/
def fetchingAs (k : LaneKind) : Lane := { laneIO .fetching (.read (.header false) true) with kind := k }

/-- HeaderRefused: the read in flight; a bad header (an unknown kind, a length of 8, of 20, of 520, below the minimum); each
row of R98; an owed retirement with a bad header. -/
theorem witness_headerRefused :
    ((onLane (fetchingAs .none)).lane 0).io = .read (.header false) true
    ∧ ((onLane (fetchingAs .none)).lane 0).state ≠ .abandoning ∧ ((onLane (fetchingAs .none)).lane 0).cur = none
    ∧ (onLane (fetchingAs .none)).bus.busMaster = true
    ∧ (Header.ofBits (bitsOf 11 0 16)).bad 0x1000 = true ∧ (Header.ofBits (bitsOf 8 0 8)).bad 0x1000 = true
    ∧ (Header.ofBits (bitsOf 8 0 20)).bad 0x1000 = true ∧ (Header.ofBits (bitsOf 8 0 520)).bad 0x1000 = true
    ∧ (Header.ofBits (bitsOf 1 0 56)).bad 0x1000 = true
    ∧ (Header.ofBits (bitsOf 8 0 16)).bad 0xFFFFFFFFFFFFFFF8 = true
    ∧ (Header.ofBits (bitsOf 1 0 64)).bad 0x1000 = false ∧ (Header.ofBits (bitsOf 1 0 64)).kind = some .openRec
    ∧ ((onLane (fetchingAs .subtitle)).lane 0).kind ≠ .none
    ∧ (Header.ofBits (bitsOf 2 0 512)).bad 0x1000 = false ∧ (Header.ofBits (bitsOf 2 0 512)).kind = some .closeRec
    ∧ ((onLane (fetchingAs .none)).lane 0).kind = .none
    ∧ (Header.ofBits (bitsOf 3 0 32)).bad 0x1000 = false ∧ (Header.ofBits (bitsOf 3 0 32)).kind = some .cues
    ∧ ((onLane (fetchingAs .description)).lane 0).kind = .description
    ∧ (Header.ofBits (bitsOf 6 0 48)).bad 0x1000 = false ∧ (Header.ofBits (bitsOf 6 0 48)).kind = some .clip
    ∧ ((onLane (fetchingAs .subtitle)).lane 0).kind = .subtitle := by
  refine ⟨rfl, nofun, rfl, rfl, ?_⟩; decide

/-- HeaderRefused: a record with an owed retirement keeps it before a header of its own kind that is bad. -/
theorem witness_headerRefused_owed : let l := { fetchingAs .subtitle with cur := some owedRec }
    ((onLane l).lane 0).cur.map (fun c => c.compared (Header.ofBits (bitsOf 8 0 8))) = some owedRec
    ∧ owedRec.owed = some { res := resOf .done, accepted := false }
    ∧ (Header.ofBits (bitsOf 8 0 8)).bad 0x1000 = true := by decide +kernel

/-- HeaderPassed: a MARK of 16 bytes, a record of 512 bytes, and the header read of a SKIP. -/
theorem witness_headerPassed : (Header.ofBits (bitsOf 8 0 16)).bad 0x1000 = false
    ∧ (Header.ofBits (bitsOf 8 0 16)).kind.bind (kindCheck .none) = none
    ∧ (Header.ofBits (bitsOf 8 0 512)).bad 0x1000 = false
    ∧ ((onLane (fetchingAs .none)).lane 0).io = .read (.header false) true
    ∧ let l := { laneIO .fetching (.read (.header true) true) with cur := some (recOf .mark []) }
      ((onLane l).lane 0).io = .read (.header true) true ∧ ((onLane l).lane 0).cur = some (recOf .mark [])
        ∧ ((onLane l).lane 0).state ≠ .abandoning ∧ (onLane l).bus.busMaster = true := by
  refine ⟨by decide, by decide, by decide, rfl, rfl, rfl, nofun, rfl⟩

/-- RecordFetched and FetchFailed: a body read of 8 bytes; a record held with its header, gated and not. -/
theorem witness_recordFetched : let l := laneIO .fetching (.read (.body (hdrOf .link 24)) true)
    ((onLane l).lane 0).io = .read (.body (hdrOf .link 24)) true ∧ ((onLane l).lane 0).state ≠ .abandoning
    ∧ (List.replicate 8 (0 : Byte)).length = (hdrOf .link 24).len - 16
    ∧ ((onLane (laneAt .fetching (recOf .mark []))).lane 0).cur = some (recOf .mark [])
    ∧ (recOf .mark []).hdr = some (hdrOf .mark 16) ∧ (onLane l).bus.busMaster = true := ⟨rfl, nofun, rfl, rfl, rfl, rfl⟩

/-- A CUES body: two cues in a block of 100 bytes. -/
def cuesBody : List Byte := leBytes 8 0x2000 ++ leBytes 4 100 ++ leBytes 2 2 ++ leBytes 2 0

/-- AbandonedReadsEnd: each read and a poll. -/
theorem witness_abandonedReadsEnd :
    ((onLane (laneIO .abandoning (.read .entry true))).lane 0).state = .abandoning
    ∧ ((onLane (laneIO .abandoning (.read .entry true))).lane 0).io = .read .entry true
    ∧ ((onLane (laneIO .abandoning (.read (.header false) true))).lane 0).io = .read (.header false) true
    ∧ ((onLane (laneIO .abandoning (.read (.body (hdrOf .link 24)) true))).lane 0).io =
        .read (.body (hdrOf .link 24)) true
    ∧ (List.replicate 8 (0 : Byte)).length = (hdrOf .link 24).len - 16
    ∧ (let l := { laneAt .abandoning (recOf .cues cuesBody) with io := .read .intake true }
      ((onLane l).lane 0).io = .read .intake true ∧ ((onLane l).lane 0).cur = some (recOf .cues cuesBody)
        ∧ takeBatch (leField (recOf .cues cuesBody).fields 8 4) (min 8 (leField (recOf .cues cuesBody).fields 12 2 - 0)) 0
          [cueOf 0 1 2 3, cueOf 0 3 4 0] = some ([cueOf 0 1 2 3, cueOf 0 3 4 0], false))
    ∧ ((onLane { laneIO .abandoning .idle with gate := { Gate.reset with poll := .outstanding } }).lane 0).gate.poll =
        .outstanding := by
  refine ⟨rfl, rfl, rfl, rfl, rfl, ⟨rfl, rfl, ?_⟩, rfl⟩; decide +kernel

/-- The Timing Engine with a unit of lane 0. -/
def timingOf (u : TimingUnit) (buffer : List Byte) : TimingEngine := { owner := some 0, ptr := 0, unit := u, buffer := buffer }

/-- ReadTimesOut, with bus mastering: an engine's owner, a Mix Engine's owner alone, a block read that is stale and one that
is not. -/
theorem witness_readTimesOut : ({ State.reset with timing := timingOf .compare [] } : State).timing.owner = some 0
    ∧ (let s := State.reset.setMix 1 { MixEngine.reset with owner := some 0 }
       (s.mixEng 1).owner = some 0 ∧ ∀ f : MixId, f ≠ 1 → (s.mixEng f).owner ≠ some 0)
    ∧ (State.reset.lane 0).pf.outstanding ≠ .stale
    ∧ ((onLane { Lane.reset with pf := { Prefetch.reset with outstanding := .stale } }).lane 0).pf.outstanding = .stale
    ∧ mastering.bus.busMaster = true := by
  refine ⟨rfl, ?_, nofun, rfl, rfl⟩; decide

/-- ReadTimesOut, without bus mastering: a state with nothing in flight and DIR_BASE given. -/
theorem witness_busMasteringDisabled : let s : State := { State.reset with dirBase := 0x400 }
    s.bus.busMaster = false ∧ (∀ i, s.NothingAsked i) ∧ s.port.job = none ∧ s.dev = .run ∧ (s.lane 15).state = .idle
      ∧ s.dirBase ≠ 0 := by
  refine ⟨rfl, fun i => ?_, rfl, rfl, rfl, by decide⟩
  unfold State.NothingAsked
  rw [show ({ State.reset with dirBase := 0x400 } : State).lane i = Lane.reset from by revert i; decide]
  exact ⟨nofun, nofun, rfl, rfl, nofun, rfl, nofun, by revert i; decide⟩

/-- ReadTimesOut, without bus mastering: a write of a STOP's resume point fails as STOP_RESUME_POINT_REFUSED says; a record
that retires; an INSPECT in each phase. -/
theorem witness_transfersFail :
    let s := State.reset.setLane 0
      { laneAt .stopped (recOf .stop []) with io := seqOf .stop [.write (.resumePoint 0x1000) 0x18 []] }
    s.failOne 0 = some (s.stopRefused 0) ∧ s.bus.busMaster = false
      ∧ (s.lane 0).headWrite.map (fun h => (h.1.kind.refusal h.2.1 0, h.2.2.1)) = some (some (.stopResumePointRefused 0), 0x18)
      ∧ .stopResumePointRefused 0 ∈ failuresOf s 0
      ∧ ((State.reset.setLane 0 (laneAt .fetching (recOf .mark []))).lane 0).cur = some (recOf .mark [])
      ∧ statusSteps (recOf .mark []) (resOf .done) = [.write .status 0x1008 (statusBytes (resOf .done))]
      ∧ (inspecting .entryRead).port.job = some (jobOf .entryRead)
      ∧ (inspecting (.writing 8 [1])).port.job = some (jobOf (.writing 8 [1])) := by decide +kernel

/-- GateEvents: an outstanding poll, and an ignored one with a first poll due. -/
theorem witness_gateEvents :
    let l := { laneAt .gated (recOf .mark []) with gate := { deadline := 5, poll := .outstanding, stale := false } }
    let m := { laneAt .gated (recOf .mark []) with gate := { deadline := 5, poll := .due, stale := true } }
    ((onLane l).lane 0).cur = some (recOf .mark []) ∧ ((onLane l).lane 0).state ≠ .abandoning
      ∧ ((onLane l).lane 0).gate.poll = .outstanding ∧ ((onLane m).lane 0).gate.poll ≠ .outstanding
      ∧ ((onLane m).lane 0).gate.stale = true ∧ (onLane l).bus.busMaster = true := ⟨rfl, nofun, rfl, nofun, rfl, rfl⟩

/-- An OPEN body (R176) for a subtitle lane at N_s = 1, D_s = 1, quota 1, S = 1, with R_out and start point given. -/
def openBody (kind chans rOut startPt : Nat) : List Byte :=
  leBytes 1 kind ++ leBytes 1 0 ++ leBytes 1 chans ++ leBytes 1 0 ++ leBytes 2 1 ++ leBytes 2 0 ++ leBytes 4 1
    ++ leBytes 4 rOut ++ leBytes 8 (2 ^ 47 - 1) ++ leBytes 4 0 ++ leBytes 4 65536 ++ leBytes 4 startPt ++ leBytes 4 0
    ++ leBytes 4 0 ++ leBytes 2 1 ++ leBytes 2 0

/-- The checks of R2, R22, R64 and R103, as OpenExecuted states them. -/
def openRefused (b : OpenBody) : Bool :=
  decide ((b.kind ≠ 1 ∧ b.kind ≠ 2) ∨ b.ns = 0 ∨ b.ds = 0 ∨ 2 ^ 47 - 1 < b.offset.natAbs ∨ b.quota = 0
    ∨ (b.kind = 1 ∧ (b.rOut = 0 ∨ 16777215 < b.rOut ∨ b.segDur = 0 ∨ 2 ^ 48 - 1 < b.startPt * b.segDur))
    ∨ (b.kind = 2 ∧ ((b.rOut ≠ 32000 ∧ b.rOut ≠ 44100 ∧ b.rOut ≠ 48000) ∨ b.chans = 0 ∨ 8 < b.chans)))

/-- OpenExecuted: the record; R_out, start point, kind and channel count on both sides of their bounds. -/
theorem witness_openExecuted :
    (recOf .openRec (openBody 1 0 1 0)).kind = some .openRec ∧ (recOf .openRec (openBody 1 0 1 0)).owed = none
    ∧ ((onLane (laneAt .fetching (recOf .openRec (openBody 1 0 1 0)))).lane 0).cur =
        some (recOf .openRec (openBody 1 0 1 0))
    ∧ [openBody 1 0 16777215 4294967295, openBody 1 0 16777216 0, openBody 3 0 1 0, openBody 2 8 48000 0,
        openBody 2 9 48000 0, openBody 2 1 32000 0, openBody 2 0 32000 0].map
          (fun b => openRefused (OpenBody.ofBytes (recOf .openRec b).fields)) =
        [false, true, true, false, true, false, true] := by decide +kernel

/-- A lane about to execute a CLOSE, with two entries and a policy for LEFTOVER. -/
def closing (p : Policy) : Lane :=
  { storeLane with cur := some (recOf .closeRec []), par := { subPar with policy := Vector.replicate 14 p } }

/-- CloseExecuted: with and without the halt, the counter at its largest value. -/
theorem witness_closeExecuted : ((onLane (closing .halt)).lane 0).cur = some (recOf .closeRec [])
    ∧ (recOf .closeRec []).owed = none ∧ (recOf .closeRec []).kind = some .closeRec
    ∧ 0 < ((onLane (closing .halt)).lane 0).store.length ∧ ((onLane (closing .halt)).lane 0).par.policy.get 13 = .halt
    ∧ ((onLane (closing .count)).lane 0).par.policy.get 13 ≠ .halt
    ∧ ((onLane (closing .count)).lane 0).counters.get 13 = 4294967295 := by decide +kernel

/-- MarkLinkStopExecuted and UnitRecordsBegin: a current record of each kind, with nothing owed, and continue_pending both
ways; a byte length that leaves the first cue no fixed part, and one that leaves it just one. -/
theorem witness_kinds : (∀ k ∈ [RecKind.mark, .link, .stop, .cues, .cue, .clip, .emit, .mix],
      (recOf k []).kind = some k ∧ (recOf k []).owed = none
        ∧ ((onLane (laneAt .fetching (recOf k []))).lane 0).cur = some (recOf k []))
    ∧ ((onLane { Lane.reset with contPending := true }).lane 0).contPending = true
    ∧ ((onLane Lane.reset).lane 0).contPending = false
    ∧ leField (recOf .cues shortBody).fields 8 4 < 0 + 16 ∧ leField (recOf .cues cuesBody).fields 8 4 = 84 + 16 := by
  decide +kernel

/-- IntakeEnds: a whole batch of two cues; a block that ends at the last byte of the second cue's fixed part, and one byte
before it; a text that overruns by one byte; a first cue that overruns. -/
theorem witness_intakeEnds : let l := { laneAt .waitData (recOf .cues cuesBody) with io := .read .intake true }
    ((onLane l).lane 0).io = .read .intake true ∧ ((onLane l).lane 0).cur = some (recOf .cues cuesBody)
    ∧ ((onLane l).lane 0).state ≠ .abandoning ∧ (onLane l).bus.busMaster = true
    ∧ takeBatch 40 2 0 [cueOf 0 1 2 3, cueOf 0 3 4 0] = some ([cueOf 0 1 2 3, cueOf 0 3 4 0], false)
    ∧ takeBatch 39 2 0 [cueOf 0 1 2 3] = some ([cueOf 0 1 2 3], true)
    ∧ takeBatch 40 2 0 [cueOf 0 1 2 3, cueOf 0 3 4 1] = some ([cueOf 0 1 2 3], true)
    ∧ takeBatch 15 2 0 [] = some ([], true)
    ∧ takeBatch (leField (recOf .cues cuesBody).fields 8 4) (min 8 (leField (recOf .cues cuesBody).fields 12 2 - 0)) 0
        [cueOf 0 1 2 3, cueOf 0 3 4 0] = some ([cueOf 0 1 2 3, cueOf 0 3 4 0], false) := by
  refine ⟨rfl, rfl, nofun, rfl, ?_⟩; decide +kernel

/-- TimingEngineGranted: lane 0 alone waits; and a state without a request. -/
theorem witness_timingEngineGranted : let s := onLane (laneAt .queued (recOf .cue []))
    s.timing.owner = none ∧ s.hold = false ∧ (s.lane 0).state = .queued ∧ (s.lane 0).cur = some (recOf .cue [])
    ∧ (s.lane 0).cur.bind Record.kind ≠ some .mix
    ∧ (∀ j : LaneId, (s.lane j).state = .queued → (0 + 15 - s.timing.ptr.val) % 16 ≤ (j.val + 15 - s.timing.ptr.val) % 16)
    ∧ ∀ i : LaneId, (State.reset.lane i).state ≠ .queued := by decide +kernel

/-- The state with the Timing Engine's unit of lane 0. -/
def unitState (u : TimingUnit) (buffer : List Byte) (l : Lane) : State := { onLane l with timing := timingOf u buffer }

/-- CueUnitEnds and ClipUnitEnds. -/
theorem witness_unitEnds : (unitState .cue [] (laneAt .working (recOf .cue []))).timing.unit = .cue
    ∧ (unitState .cue [] (laneAt .working (recOf .cue []))).timing.owner = some 0
    ∧ ((unitState .cue [] (laneAt .working (recOf .cue []))).lane 0).cur = some (recOf .cue [])
    ∧ (unitState .clip [] (laneAt .working (recOf .clip []))).timing.unit = .clip
    ∧ (unitState .clip [] (laneAt .working (recOf .clip []))).timing.owner = some 0
    ∧ ((unitState .clip [] (laneAt .working (recOf .clip []))).lane 0).cur = some (recOf .clip []) :=
  ⟨rfl, rfl, rfl, rfl, rfl, rfl⟩

/-- What a cue unit holds, with quota 3: one entry of slot 0, from 300,300 to 336,336, that is its latest. -/
def heldWork (free : Nat) : CueWork :=
  { store := [entryOf 300300 336336 0 1], lastStart := 0, free := free, notes := [], consumed := 0, cursor := 0
    refused := false }

/-- CueUnitEnds, one cue: dropped with no length; gone on, with a free slot, with none and at quota; after its slot's latest
entry, in it, and at its start. -/
theorem witness_passCue : (prepareCue subPar 0 0 (cueOf 0 125000000 125000000 0)).1 = .drop
    ∧ (prepareCue subPar 0 0 (cueOf 0 140000000 160000000 17)).1 =
      .pass 336336 384384 (cueOf 0 140000000 160000000 17).text
    ∧ (prepareCue subPar 0 0 (cueOf 0 130000000 160000000 17)).1 =
      .pass 312312 384384 (cueOf 0 130000000 160000000 17).text
    ∧ (prepareCue subPar 0 0 (cueOf 0 125000000 160000000 17)).1 =
      .pass 300300 384384 (cueOf 0 125000000 160000000 17).text
    ∧ (heldWork 1).store.length < subPar.quota ∧ 0 < (heldWork 1).free ∧ (heldWork 0).free = 0
    ∧ ({ subPar with quota := 1 } : Params).quota ≤ (heldWork 1).store.length
    ∧ (heldWork 1).store = [] ++ entryOf 300300 336336 0 1 :: []
    ∧ (entryOf 300300 336336 0 1).stop ≤ 336336 ∧ 312312 < (entryOf 300300 336336 0 1).stop
    ∧ (entryOf 300300 336336 0 1).start = 300300 := by decide +kernel

/-- ClipUnitEnds: a counter at its largest value; a table in start order. -/
theorem witness_credited : storeLane.counters.get NoteKind.clipped.idx ≤ 4294967295
    ∧ [clip46, clip47].Pairwise (fun x y => x.start ≤ y.start) := by decide +kernel

/-- SegmentCompleted and SegmentFails: a write; a comparison that matches, one that differs first at byte 0, one at the
last byte. -/
theorem witness_segments : (unitState .segWrite [1, 2] (laneAt .working (recOf .emit []))).timing.unit = .segWrite
    ∧ (unitState .compare [1, 2] (laneAt .working (recOf .emit []))).timing.unit = .compare
    ∧ (unitState .compare [1, 2] (laneAt .working (recOf .emit []))).timing.owner = some 0
    ∧ ((unitState .compare [1, 2] (laneAt .working (recOf .emit []))).lane 0).cur = some (recOf .emit [])
    ∧ (unitState .compare [1, 2] (laneAt .working (recOf .emit []))).bus.busMaster = true
    ∧ (let buf := (unitState .compare [1, 2] (laneAt .working (recOf .emit []))).timing.buffer
       ([1, 2] : List Byte) = buf
        ∧ (([9, 2] : List Byte).length = buf.length ∧ ([9, 2] : List Byte).take 0 = buf.take 0
          ∧ ([9, 2] : List Byte)[0]? ≠ buf[0]?)
        ∧ ([1, 9] : List Byte).take 1 = buf.take 1 ∧ ([1, 9] : List Byte)[1]? ≠ buf[1]? ∧ 1 < buf.length) := by
  decide +kernel

/-- SegmentImage, with a text of 240 bytes, at the last segment index of the time range for S = 1, and a store of 70. -/
theorem witness_segmentImage : 0 < subPar.segDur ∧ subPar.segDur < 2 ^ 32 ∧ subPar.rOut < 2 ^ 32
    ∧ 281474976710655 * ({ subPar with segDur := 1 } : Params).segDur ≤ maxTime
    ∧ (List.replicate 70 (entryOf 0 10 0 240)).length ≤ 4096 ∧ (entryOf 0 10 0 240).text.length ≤ 240
    ∧ ((List.replicate 70 (entryOf 0 10 0 240)).take 64)[63]? = some (entryOf 0 10 0 240) := by decide +kernel

/-- A MIX body of 2,000 frames. -/
def mixRecord : Record := recOf .mix (leBytes 8 0x2000 ++ leBytes 8 0x4000 ++ leBytes 3 2000 ++ leBytes 5 0)

/-- A description lane with one channel in a MIX record. -/
def mixLane (st : LaneState) (pf : Prefetch) : Lane :=
  { lane48 [clip46] with state := st, cur := some mixRecord, pf := pf, par := { Params.zero with chans := 1 } }

/-- BlockReadsEnd: a live read of two frames, a stale one; a stale one on a lane without a record, and none. -/
theorem witness_blockReadsEnd :
    let l := mixLane .waitData { Prefetch.reset with outstanding := .live 1998 2, cursor := 2000 }
    let m := mixLane .waitData { Prefetch.reset with outstanding := .stale }
    ((onLane l).lane 0).mixBody = some (MixBody.ofBytes mixRecord.fields)
      ∧ ((onLane l).lane 0).pf.outstanding = .live 1998 2
      ∧ ([1, 0, 2, 0] : List Byte).length = 2 * (2 * ((onLane l).lane 0).par.chans)
      ∧ ((onLane m).lane 0).pf.outstanding = .stale ∧ (onLane l).bus.busMaster = true
      ∧ (let n := { Lane.reset with pf := { Prefetch.reset with outstanding := .stale } }
         ((onLane n).lane 0).pf.outstanding = .stale ∧ ((onLane n).lane 0).cur.bind Record.kind ≠ some .mix)
      ∧ ((onLane Lane.reset).lane 0).pf.outstanding ≠ .stale := by decide +kernel

/-- A read block of two frames. -/
def headOf : Prefetch := { Prefetch.reset with queue := [.read 0 2 [1, 2]] }

/-- The state with Mix Engine 1 working for lane 0. -/
def mixState (phase : MixPhase) (view : List ClipEntry) : State :=
  (onLane { mixLane .working headOf with base := 96000 }).setMix 1
    { owner := some 0, view := view, acc := [16384, 819200000], phase := phase }

/-- MixEngineGranted: engine 1 with engine 0 taken; no request; clip runs of two samples. -/
theorem witness_mixEngineGranted :
    let s := (onLane (mixLane .queued headOf)).setMix 0 { MixEngine.reset with owner := some 3 }
    (s.mixEng 1).owner = none ∧ (s.mixEng 0).owner ≠ none ∧ s.hold = false ∧ (s.lane 0).state = .queued
    ∧ (s.lane 0).cur.bind Record.kind = some .mix ∧ (s.lane 0).pf.queue = [.read 0 2 [1, 2]]
    ∧ (∀ j : LaneId, (s.lane j).state = .queued → (0 + 15 - s.mixPtr.val) % 16 ≤ (j.val + 15 - s.mixPtr.val) % 16)
    ∧ (∀ i : LaneId, (State.reset.lane i).state ≠ .queued) ∧ (mixState .reading [clip46]).bus.busMaster = true
    ∧ ((mixState .reading [clip46]).mixEng 1).owner = some 0 ∧ ((mixState .reading [clip46]).mixEng 1).phase = .reading
    ∧ ([[1, 0, 2, 0]] : List (List Byte)).map List.length =
        (neededClips [clip46] 1 96000 2).map (fun x => 2 * runCount x 96000 2) := by decide +kernel

/-- MixBlockWritten and MixUnitFails. -/
theorem witness_mixBlockWritten : ((mixState .writing []).mixEng 1).owner = some 0
    ∧ ((mixState .writing []).mixEng 1).phase = .writing ∧ ((mixState .reading []).mixEng 1).phase = .reading
    ∧ ((mixState .writing []).lane 0).cur = some mixRecord ∧ mixRecord.kind = some .mix
    ∧ ((mixState .writing []).lane 0).pf.queue = [.read 0 2 [1, 2]]
    ∧ (mixState .writing []).bus.busMaster = true := by decide +kernel

/-- A lane whose sequence of a kind begins with a write, with what follows it. -/
def writing (st : LaneState) (k : SeqKind) (w : SeqStep) (rest : List SeqStep) : Lane :=
  { laneAt st (recOf .mark []) with io := seqOf k (w :: rest) }

/-- RetirementWritten: a write left, nothing left, a notice left. -/
theorem witness_retirementWritten : ∀ rest ∈ ([[restWrite], [], [.notice noteOf]] : List (List SeqStep)),
    ((onLane (writing .retiring .rehalt restWrite rest)).lane 0).io = seqOf .rehalt (restWrite :: rest)
      ∧ SeqKind.rehalt ≠ .teardown ∧ (onLane (writing .retiring .rehalt restWrite rest)).bus.busMaster = true := by
  decide +kernel

/-- RetirementWritesRefused: a status, a resume point of a retirement, of a LINK, of a STOP, a rest state. -/
theorem witness_retirementWritesRefused :
    ((onLane (writing .retiring (.retire (resOf .done)) (.write .status 8 []) [])).lane 0).io =
      seqOf (.retire (resOf .done)) [.write .status 8 []]
    ∧ ((onLane (writing .retiring (.retire (resOf .failed)) (.write (.resumePoint 8) 8 []) [])).lane 0).io =
      seqOf (.retire (resOf .failed)) [.write (.resumePoint 8) 8 []]
    ∧ ((onLane (writing .fetching .linkPass (.write (.resumePoint 8) 8 []) [])).lane 0).io =
      seqOf .linkPass [.write (.resumePoint 8) 8 []]
    ∧ ((onLane (writing .stopped .stop (.write (.resumePoint 8) 8 []) [])).lane 0).io =
      seqOf .stop [.write (.resumePoint 8) 8 []]
    ∧ ((onLane (writing .retiring .rehalt restWrite [])).lane 0).io = seqOf .rehalt [restWrite]
    ∧ ((onLane (writing .retiring .rehalt restWrite [])).lane 0).cur = some (recOf .mark []) :=
  ⟨rfl, rfl, rfl, rfl, rfl, rfl⟩

/-- TeardownRuns: not ready; ready with and without a record; a teardown write; its notice in flight. -/
theorem witness_teardownRuns : (State.reset.lane 0).state ≠ .abandoning
    ∧ (let s := onLane (laneAt .abandoning (recOf .mark []))
       (s.lane 0).state = .abandoning ∧ (s.lane 0).io = .idle ∧ (s.lane 0).gate.poll ≠ .outstanding
        ∧ s.timing.owner ≠ some 0 ∧ (s.mixEng 0).owner ≠ some 0 ∧ (s.mixEng 1).owner ≠ some 0 ∧ s.hold = false
        ∧ (s.lane 0).cur = some (recOf .mark []))
    ∧ ((onLane (laneIO .abandoning .idle)).lane 0).cur = none
    ∧ ((onLane (writing .abandoning .teardown restWrite [.notice noteOf])).lane 0).io =
        seqOf .teardown [restWrite, .notice noteOf]
    ∧ (let w : SlotWrite := { notice := noteOf, own := true, setsBit := true }
       let s := onLane { laneIO .abandoning (seqOf .teardown [.notice noteOf]) with slot := some w }
       (s.lane 0).io = seqOf .teardown [.notice noteOf] ∧ (s.lane 0).slot = some w ∧ w.own = true
        ∧ s.bus.busMaster = true) := by
  decide +kernel

/-- NoticeSlotWriteEnds: an own notice; a released one with each waiting action, and with the lane elsewhere. -/
theorem witness_noticeSlotWriteEnds :
    (let w : SlotWrite := { notice := noteOf, own := true, setsBit := true }
     let s := onLane { laneIO .retiring (seqOf .rehalt [.notice noteOf]) with slot := some w }
     (s.lane 0).slot = some w ∧ w.own = true ∧ (s.lane 0).io = seqOf .rehalt [.notice noteOf] ∧ s.bus.busMaster = true)
    ∧ (∀ act ∈ [WaitAct.fetch, .resume, .skip],
       let w : SlotWrite := { notice := noteOf, own := false, setsBit := true }
       let s := onLane { laneIO .noticeWait .idle with slot := some w, waitAct := act }
       (s.lane 0).slot = some w ∧ w.own = false ∧ (s.lane 0).state = .noticeWait ∧ (s.lane 0).waitAct = act
        ∧ s.bus.busMaster = true)
    ∧ ((onLane (laneIO .stopped .idle)).lane 0).state ≠ .noticeWait := by decide +kernel

/-- InspectRuns: both phases; capacities of 95 and 96; the largest counts and a text of 240 bytes. -/
theorem witness_inspectRuns : (inspecting .entryRead).port.job = some (jobOf .entryRead)
    ∧ (inspecting (.writing 8 [1])).port.job = some (jobOf (.writing 8 [1]))
    ∧ (inspecting .entryRead).bus.busMaster = true ∧ 4294967295 < 2 ^ 32
    ∧ (let e := entryOf 0 maxTime 7 240
       e.text.length ≤ 240 ∧ e.chars ≤ 240 ∧ e.start ≤ maxTime ∧ e.stop ≤ maxTime)
    ∧ inspectCap (BitVec.ofNat 96 (8 + 2 ^ 64 * 96)) = 96 ∧ inspectCap (BitVec.ofNat 96 (8 + 2 ^ 64 * 95)) = 95 := by
  decide +kernel

/-- TimesConverted: N_s and cps10 above 0; a time at the end of the range on grids that replace it and that do not; sums at
0, below it, at the range's end and beyond it. -/
theorem witness_timesConverted : 0 < subPar.ns ∧ 0 < subPar.cps10 ∧ maxTime ≤ maxTime
    ∧ (snapTime 1000000 maxTime).2 = true ∧ (snapTime 1 maxTime).2 = false
    ∧ [0, -1, 281474976710655, 281474976710656].map (fun o =>
        (convertTime { subPar with offset := o } 0 : Int) + ({ subPar with offset := o } : Params).offset) =
      [0, -1, 281474976710655, 281474976710656] := by decide

/-- A cue of 20 single-byte characters, forced or not, on the timeline of `subPar`. -/
def forcedCue (forced : Bool) (start stop : Nat) : RawCue :=
  cueOf (if forced then 128 else 0) start stop 20

/-- CuesPrepared: a text of 65,535 bytes given by its first 241 and cut at byte 240; the inline cue of a CUE record with its
whole text of 480 bytes; a cue that is filtered, one that is
forced; each way to drop a cue or to let it go on, at a boundary where it has one: the end at 0, a start below 0, a start
below last_start and at it, an end at the horizon, a horizon beyond the range, no length, a length that is enough, one
that is extended, one extended beyond the range, one that starts at its end. -/
theorem witness_cuesPrepared :
    (let c : RawCue := { cueOf 0 125000000 150000000 65535 with text := List.replicate 241 0x41 }
     c.text.length = min (cueTextLen c) 241 ∧ 240 < cueTextLen c ∧ (byteAt c.text 240).toNat < 0x80)
    ∧ (let c := inlineCue (leBytes 12 0 ++ leBytes 2 0 ++ leBytes 2 480 ++ List.replicate 480 0x41)
       c.text.length = cueTextLen c ∧ cueTextLen c = 480 ∧ (byteAt c.text 240).toNat < 0x80)
    ∧ cueForced (forcedCue false 0 0) = false ∧ cueForced (forcedCue true 0 0) = true
    ∧ (forcedCue true 0 0).text.length = min (cueTextLen (forcedCue true 0 0)) 241
    ∧ cueTextLen (forcedCue true 0 0) ≤ 240
    ∧ [({ subPar with forcedOnly := true }, 0, 0, 125000000), ({ subPar with offset := -360000 }, 0, 0, 125000000),
        ({ subPar with offset := -300001, grid := 0 }, 0, 0, 125000000), (subPar, 0, 300301, 125000000),
        (subPar, 0, 300300, 125000000), (subPar, 360360, 0, 125000000), (subPar, maxTime + 1, 0, 125000000),
        ({ subPar with cps10 := 0 }, 0, 0, 150000000), ({ subPar with dMin := 60060 }, 0, 0, 125000000),
        ({ subPar with dMin := 60061 }, 0, 0, 125000000)].map
          (fun (p, h, last, start) => (prepareCue p h last (forcedCue false start 150000000)).2.1) =
      [[.filtered], [.beforeZero], [.beforeZero], [.outOfOrder], [], [.late], [.late], [.emptyCue], [], [.extended]]
    ∧ [maxTime - 1, maxTime].map (fun start => (prepareCue { subPar with ns := 1, rOut := 1, grid := 0, dMin := 9 } 0 0
        (forcedCue false start maxTime)).2.1) = [[.extended, .range], [.range, .emptyCue]] := by decide +kernel

/-- MixArithmetic: a depth of unity; the first and last samples of attack, body and release, and those beyond. -/
theorem witness_mixArithmetic : ({ clip46 with duck := 16384 } : ClipEntry).duck ≤ 16384
    ∧ (clip46.start ≤ 96000 ∧ 96000 < clip46.start + clip46.len) ∧ 143999 < clip46.start + clip46.len
    ∧ (clip46.start ≤ 91200 + clip46.attack ∧ 95999 < clip46.start)
    ∧ (clip46.start + clip46.len ≤ 144000 ∧ 153599 < clip46.start + clip46.len + clip46.release)
    ∧ 91199 + clip46.attack < clip46.start ∧ clip46.start + clip46.len + clip46.release ≤ 153600
    ∧ (lane48 []).par.duckMask.getLsbD 2 = false
    ∧ (clip46.start < 143999 + 1024 ∧ 143999 < clip46.start + clip46.len) ∧ 1 < ([1, 2, 3, 4, 5] : List Byte).length / 2
    ∧ ([16384, -5] : List Int)[1]? = some (-5) := by decide

end Sys2Proof.Tests
end

section
/-! The time arithmetic of chapter 1: what conversion, clamping, snapping and the reading time give (R4 to R7, R14, R15,
and R70 for a clip's start). -/

namespace Sys2Proof.Machine

open Sys2Proof

/-! ## Conversion and clamps (R4, R5, R70) -/

/-- R4: the rounded quotient lies within half a tick of the exact time, and only above it at exactly half a tick. -/
theorem convertTime_nearest {p : Params} (t : Nat) (hns : 0 < p.ns) :
    2 * (t * p.ds * p.rOut) < 2 * convertTime p t * p.ns + p.ns
      ∧ 2 * convertTime p t * p.ns ≤ 2 * (t * p.ds * p.rOut) + p.ns := by
  have numerator : 2 * t * p.ds * p.rOut + p.ns = 2 * (t * p.ds * p.rOut) + p.ns := by ring
  have product : 2 * convertTime p t * p.ns = 2 * p.ns * convertTime p t := by ring
  have lower : 2 * p.ns * convertTime p t ≤ 2 * t * p.ds * p.rOut + p.ns := Nat.mul_div_le _ _
  have upper : 2 * t * p.ds * p.rOut + p.ns < 2 * p.ns * (convertTime p t + 1) := Nat.lt_mul_div_succ _ (by omega)
  rw [Nat.mul_succ] at upper
  omega

theorem placeTime_of_le {p : Params} {t : Nat} (h : (convertTime p t : Int) + p.offset ≤ maxTime) :
    placeTime p t = ((convertTime p t : Int) + p.offset, false) :=
  if_neg (Int.not_lt.mpr h)

theorem placeTime_of_lt {p : Params} {t : Nat} (h : (maxTime : Int) < (convertTime p t : Int) + p.offset) :
    placeTime p t = ((maxTime : Int), true) :=
  if_pos h

/-- R70: beyond the range a clip starts at its end, with RANGE alone: the clamped time is not below 0. -/
theorem placeClip_of_lt {p : Params} {t : Nat} (h : (maxTime : Int) < (convertTime p t : Int) + p.offset) :
    placeClip p t = (maxTime, [.range]) := by
  simp [placeClip, placeTime_of_lt h, noteIf, maxTime]

theorem placeClip_of_mem_range {p : Params} {t : Nat} (h0 : 0 ≤ (convertTime p t : Int) + p.offset)
    (h : (convertTime p t : Int) + p.offset ≤ maxTime) :
    placeClip p t = (((convertTime p t : Int) + p.offset).toNat, []) := by
  simp [placeClip, placeTime_of_le h, noteIf, h0]

theorem placeClip_of_neg {p : Params} {t : Nat} (h : (convertTime p t : Int) + p.offset < 0) :
    placeClip p t = (0, [.beforeZero]) := by
  have hle : (convertTime p t : Int) + p.offset ≤ maxTime := h.le.trans (Int.natCast_nonneg _)
  simp [placeClip, placeTime_of_le hle, noteIf, h, Int.toNat_of_nonpos h.le]

/-! ## Snapping (R6, R7) -/

@[simp] theorem snapNearest_zero (v : Nat) : snapNearest 0 v = v := rfl

/-- R6 by the remainder of the time on the grid: down below half of G, up from half of G on. -/
theorem snapNearest_eq {g : Nat} (v : Nat) (hg : 0 < g) :
    snapNearest g v = if g ≤ 2 * (v % g) then (v / g + 1) * g else v / g * g := by
  simp only [snapNearest, if_neg hg.ne', Nat.mod_eq_sub_div_mul]

theorem snapTime_of_le {g v : Nat} (h : snapNearest g v ≤ maxTime) : snapTime g v = (snapNearest g v, false) :=
  if_neg (Nat.not_lt.mpr h)

theorem snapTime_of_lt {g v : Nat} (h : maxTime < snapNearest g v) : snapTime g v = (maxTime / g * g, true) :=
  if_pos h

/-- The three courses of a time within the range on a grid: it goes down, it goes up within the range, or, as the
multiple above it lies beyond the range, it takes the multiple below it with RANGE. -/
theorem snapTime_cases {g v : Nat} (hg : 0 < g) (hv : v ≤ maxTime) :
    (2 * (v % g) < g ∧ snapTime g v = (v / g * g, false))
      ∨ (g ≤ 2 * (v % g) ∧ (v / g + 1) * g ≤ maxTime ∧ snapTime g v = ((v / g + 1) * g, false))
      ∨ (g ≤ 2 * (v % g) ∧ maxTime < (v / g + 1) * g ∧ snapTime g v = (v / g * g, true)) := by
  have nearest := snapNearest_eq v hg
  by_cases half : g ≤ 2 * (v % g)
  · rw [if_pos half] at nearest
    by_cases fits : (v / g + 1) * g ≤ maxTime
    · exact .inr (.inl ⟨half, fits, nearest ▸ snapTime_of_le (nearest ▸ fits)⟩)
    · have beyond : maxTime < (v / g + 1) * g := Nat.lt_of_not_le fits
      have sameQuotient : maxTime / g = v / g :=
        le_antisymm (Nat.lt_succ_iff.mp ((Nat.div_lt_iff_lt_mul hg).mpr beyond)) (Nat.div_le_div_right hv)
      exact .inr (.inr ⟨half, beyond, sameQuotient ▸ snapTime_of_lt (nearest ▸ beyond)⟩)
  · rw [if_neg half] at nearest
    have fits : v / g * g ≤ maxTime := (Nat.div_mul_le_self v g).trans hv
    exact .inl ⟨Nat.lt_of_not_le half, nearest ▸ snapTime_of_le (nearest ▸ fits)⟩

theorem snapTime_zero {v : Nat} (hv : v ≤ maxTime) : snapTime 0 v = (v, false) :=
  snapTime_of_le (g := 0) hv

/-- R6, R7: the snapped time is a multiple of G in the range; unless replaced it is the nearest one, the later at a tie;
replaced, it is the largest in the range, and the time lies half of G or more above it. -/
theorem snapTime_spec {g v : Nat} (hg : 0 < g) (hv : v ≤ maxTime) :
    (snapTime g v).1 % g = 0 ∧ (snapTime g v).1 ≤ maxTime
      ∧ ((snapTime g v).2 = false → 2 * v < 2 * (snapTime g v).1 + g ∧ 2 * (snapTime g v).1 ≤ 2 * v + g)
      ∧ ((snapTime g v).2 = true →
        maxTime < (snapTime g v).1 + g ∧ g ≤ 2 * (v - (snapTime g v).1) ∧ v < (snapTime g v).1 + g) := by
  have division : v / g * g + v % g = v := Nat.div_add_mod' v g
  have remainder : v % g < g := Nat.mod_lt v hg
  have above : (v / g + 1) * g = v / g * g + g := Nat.succ_mul _ _
  obtain ⟨half, e⟩ | ⟨half, fits, e⟩ | ⟨half, beyond, e⟩ := snapTime_cases hg hv
  · have nearest : 2 * v < 2 * (v / g * g) + g ∧ 2 * (v / g * g) ≤ 2 * v + g := by omega
    simpa [e, nearest] using show v / g * g ≤ maxTime by omega
  · have nearest : 2 * v < 2 * ((v / g + 1) * g) + g ∧ 2 * ((v / g + 1) * g) ≤ 2 * v + g := by omega
    simpa [e, nearest] using fits
  · have largest : maxTime < v / g * g + g ∧ g ≤ 2 * (v - v / g * g) ∧ v < v / g * g + g := by omega
    simpa [e, largest] using show v / g * g ≤ maxTime by omega

/-! ## Reading time and required duration (R14, R15) -/

theorem readingTicks_of_cps10_eq_zero {p : Params} (c : Nat) (h : p.cps10 = 0) : readingTicks p c = 0 :=
  if_pos h

/-- R14: the reading ticks are the least n with c characters in n ticks no faster than cps10 / 10 a second. -/
theorem readingTicks_le_iff {p : Params} (c n : Nat) (h : 0 < p.cps10) :
    readingTicks p c ≤ n ↔ c * p.rOut * 10 ≤ n * p.cps10 := by
  rw [readingTicks, if_neg h.ne', Nat.div_le_iff_le_mul_add_pred h, Nat.add_le_add_iff_right, Nat.mul_comm n]

theorem requiredTicks_eq (p : Params) (c : Nat) :
    requiredTicks p c = max p.dMin (if p.cps10 = 0 then 0 else readingTicks p c) := by
  split
  next off => rw [requiredTicks, readingTicks_of_cps10_eq_zero c off]
  next => rfl

/-- Settles O58: the laws of conversion, clamps, snapping and reading time together. -/
theorem timesConverted : Obligations.TimesConverted :=
  ⟨fun _ t => convertTime_nearest t,
    fun _ _ => ⟨placeTime_of_le, fun h => ⟨placeTime_of_lt h, placeClip_of_lt h⟩, placeClip_of_mem_range,
      placeClip_of_neg⟩,
    fun _ => snapTime_zero, fun _ _ => snapTime_spec, requiredTicks_eq, fun _ => readingTicks_le_iff⟩

end Sys2Proof.Machine
end

section
/-! Byte layout (R173): what a field reads at an offset of a structure that is laid out value after value, and where the
elements of an array of unequal sizes lie. -/

namespace Sys2Proof.Machine

open Sys2Proof

/-! ## Little-endian values -/

@[simp] theorem length_leBytes (n v : Nat) : (leBytes n v).length = n := by
  induction n generalizing v with
  | zero => rfl
  | succ n ih => simp [leBytes, ih]

theorem leNat_leBytes (n v : Nat) : leNat (leBytes n v) = v % 256 ^ n := by
  induction n generalizing v with
  | zero => simp [leBytes, leNat, Nat.mod_one]
  | succ n ih => simp [leBytes, leNat, ih, Nat.pow_succ', Nat.mod_mul]

/-- A value that fits its field and is laid out first is read back at offset 0. -/
theorem leField_leBytes {n v : Nat} (h : v < 256 ^ n) (rest : List Byte) : leField (leBytes n v ++ rest) 0 n = v := by
  rw [leField, List.drop_zero, List.take_left' (length_leBytes n v), leNat_leBytes, Nat.mod_eq_of_lt h]

/-- A field that begins past the value laid out first lies in what follows that value. -/
theorem leField_leBytes_append {n off : Nat} (h : n ≤ off) (v m : Nat) (rest : List Byte) :
    leField (leBytes n v ++ rest) off m = leField rest (off - n) m := by
  rw [leField, List.drop_append, List.drop_eq_nil_of_le (by simpa using h), length_leBytes, List.nil_append, leField]

/-! ## Padding and arrays -/

theorem round8_eq (n : Nat) : round8 n = (n + 7) / 8 * 8 := by
  simp only [round8, padLen]
  omega

@[simp] theorem length_padded (text : List Byte) : (padded text).length = round8 text.length := by
  simp [padded, round8]

/-- An element of an array begins past the sizes of those before it, and its own size cuts it out. -/
theorem take_drop_flatten_map {α β : Type} (f : α → List β) {xs : List α} {j : Nat} {x : α} (h : xs[j]? = some x) :
    ((xs.map f).flatten.drop ((xs.take j).map (fun y => (f y).length)).sum).take (f x).length = f x := by
  obtain ⟨hj, rfl⟩ := List.getElem?_eq_some_iff.mp h
  have sizes : (xs.take j).map (fun y => (f y).length) = ((xs.map f).map List.length).take j := by
    rw [List.map_map, ← List.map_take]
    rfl
  rw [sizes, List.drop_sum_flatten, ← List.map_drop, List.drop_eq_getElem_cons hj, List.map_cons, List.flatten_cons,
    List.take_left]

end Sys2Proof.Machine
end

section
/-! The segment image (R47 to R51, R178): which entries give pieces, what a piece and the header hold, and that every
value fits its field. -/

namespace Sys2Proof.Machine

open Sys2Proof

/-! ## The entries that give pieces (R47, R48) -/

theorem eligible_eq_decide (b0 b1 : Nat) :
    CueEntry.eligible b0 b1 = fun e => decide (e.start < b1 ∧ b0 < e.stop) := by
  funext e
  simp [CueEntry.eligible]

theorem mem_pieceEntries {b0 b1 : Nat} {store : List CueEntry} {e : CueEntry} (h : e ∈ pieceEntries b0 b1 store) :
    e ∈ store ∧ e.start < b1 ∧ b0 < e.stop := by
  simpa [CueEntry.eligible] using List.mem_filter.mp (List.mem_of_mem_take h)

theorem length_pieceEntries_le (b0 b1 : Nat) (store : List CueEntry) : (pieceEntries b0 b1 store).length ≤ 64 :=
  List.length_take_le _ _

/-- R48: the eligible entries are those that give pieces and those left out. -/
theorem leftOut_eq (b0 b1 : Nat) (store : List CueEntry) :
    leftOut b0 b1 store = (store.filter (CueEntry.eligible b0 b1)).length - (pieceEntries b0 b1 store).length := by
  simp only [leftOut, pieceEntries, List.length_take]
  omega

theorem leftOut_le (b0 b1 : Nat) (store : List CueEntry) : leftOut b0 b1 store ≤ store.length :=
  (Nat.sub_le _ _).trans (List.length_filter_le _ _)

/-! ## A piece (R49) -/

theorem length_pieceBytes (b0 b1 : Nat) (e : CueEntry) : (pieceBytes b0 b1 e).length = 16 + round8 e.text.length := by
  simp only [pieceBytes, List.length_append, length_leBytes, length_padded]

/-- The piece's text follows its sixteen bytes of fields. -/
theorem pieceBytes_drop (b0 b1 : Nat) (e : CueEntry) : (pieceBytes b0 b1 e).drop 16 = padded e.text :=
  List.drop_left' (by simp)

theorem pieceFlags_lt (b0 b1 : Nat) (e : CueEntry) : pieceFlags b0 b1 e < 256 := by
  unfold pieceFlags
  split_ifs <;> omega

/-- R49: every field of a piece holds its value, for an entry that overlaps bounds less than 2^32 ticks apart. -/
theorem pieceBytes_fields {b0 b1 : Nat} {e : CueEntry} (hdur : b1 - b0 < 2 ^ 32) (hstart : e.start < b1)
    (htext : e.text.length ≤ 240) :
    leField (pieceBytes b0 b1 e) 0 4 = max e.start b0 - b0 ∧ leField (pieceBytes b0 b1 e) 4 4 = min e.stop b1 - b0
      ∧ leField (pieceBytes b0 b1 e) 8 1 = pieceFlags b0 b1 e ∧ leField (pieceBytes b0 b1 e) 9 1 = e.slot.toNat
      ∧ leField (pieceBytes b0 b1 e) 10 1 = e.style.toNat ∧ leField (pieceBytes b0 b1 e) 11 1 = 0
      ∧ leField (pieceBytes b0 b1 e) 12 2 = e.text.length ∧ leField (pieceBytes b0 b1 e) 14 2 = 0 := by
  have hfrom : max e.start b0 - b0 < 256 ^ 4 := by omega
  have hto : min e.stop b1 - b0 < 256 ^ 4 := by omega
  have hflags : pieceFlags b0 b1 e < 256 := pieceFlags_lt b0 b1 e
  have hslot : e.slot.toNat < 256 := e.slot.isLt.trans (by decide)
  have hstyle : e.style.toNat < 256 := e.style.isLt.trans (by decide)
  have hlen : e.text.length < 256 ^ 2 := by omega
  simp (disch := omega) [pieceBytes, leField_leBytes, leField_leBytes_append]

/-! ## The header and the whole image (R50, R51) -/

/-- R51: a segment is its header and its pieces, to the byte. -/
theorem length_segmentBytes (p : Params) (k : Nat) (store : List CueEntry) :
    (segmentBytes p k store).length = segmentSize (pieceEntries (k * p.segDur) ((k + 1) * p.segDur) store) := by
  simp only [segmentBytes, segmentSize, List.length_append, length_leBytes, List.length_flatten, List.map_map,
    Function.comp_def, length_pieceBytes]

/-- 64 pieces of at most 256 bytes. -/
theorem segmentSize_le {b0 b1 : Nat} {store : List CueEntry} (htext : ∀ e ∈ store, e.text.length ≤ 240) :
    segmentSize (pieceEntries b0 b1 store) ≤ 48 + 64 * 256 := by
  have each : ∀ n ∈ (pieceEntries b0 b1 store).map (fun e => 16 + round8 e.text.length), n ≤ 256 := by
    intro n hn
    obtain ⟨e, he, rfl⟩ := List.mem_map.mp hn
    have := htext e (mem_pieceEntries he).1
    rw [round8_eq]
    omega
  have total := List.sum_le_card_nsmul _ _ each
  have count := length_pieceEntries_le b0 b1 store
  rw [List.length_map, smul_eq_mul] at total
  unfold segmentSize
  omega

/-- R50: every field of the header holds its value. -/
theorem segmentBytes_fields {p : Params} {k : Nat} {store : List CueEntry} (hpos : 0 < p.segDur)
    (hdur : p.segDur < 2 ^ 32) (hrate : p.rOut < 2 ^ 32) (htime : k * p.segDur ≤ maxTime)
    (hstore : store.length ≤ 4096) (htext : ∀ e ∈ store, e.text.length ≤ 240) :
    let pieces := pieceEntries (k * p.segDur) ((k + 1) * p.segDur) store
    let img := segmentBytes p k store
    leField img 0 4 = 0x24400001 ∧ leField img 4 4 = segmentSize pieces ∧ leField img 8 2 = pieces.length
      ∧ leField img 10 2 = leftOut (k * p.segDur) ((k + 1) * p.segDur) store ∧ leField img 12 4 = p.rOut
      ∧ leField img 16 8 = k ∧ leField img 24 8 = k * p.segDur ∧ leField img 32 4 = p.segDur ∧ leField img 36 12 = 0 := by
  intro pieces img
  have hsize : segmentSize pieces < 256 ^ 4 := (segmentSize_le htext).trans_lt (by decide)
  have hcount : pieces.length < 256 ^ 2 := (length_pieceEntries_le _ _ _).trans_lt (by decide)
  have hleft : leftOut (k * p.segDur) ((k + 1) * p.segDur) store < 256 ^ 2 :=
    ((leftOut_le _ _ _).trans hstore).trans_lt (by decide)
  have hstart : k * p.segDur < 256 ^ 8 := htime.trans_lt (by decide)
  have hindex : k < 256 ^ 8 := (Nat.le_mul_of_pos_right k hpos).trans_lt hstart
  simp (disch := omega) [img, pieces, segmentBytes, leField_leBytes, leField_leBytes_append]

/-- R50: a piece lies in the image past the header and the pieces before it. -/
theorem segmentBytes_piece {p : Params} {k j : Nat} {store : List CueEntry} {e : CueEntry}
    (h : (pieceEntries (k * p.segDur) ((k + 1) * p.segDur) store)[j]? = some e) :
    let size (e : CueEntry) : Nat := 16 + round8 e.text.length
    let before := (pieceEntries (k * p.segDur) ((k + 1) * p.segDur) store).take j
    ((segmentBytes p k store).drop (48 + (before.map size).sum)).take (size e) =
      pieceBytes (k * p.segDur) ((k + 1) * p.segDur) e := by
  intro size before
  have pastHeader : (segmentBytes p k store).drop 48 =
      ((pieceEntries (k * p.segDur) ((k + 1) * p.segDur) store).map
        (pieceBytes (k * p.segDur) ((k + 1) * p.segDur))).flatten := List.drop_left' (by simp)
  have slice := take_drop_flatten_map (pieceBytes (k * p.segDur) ((k + 1) * p.segDur)) h
  simp only [length_pieceBytes] at slice
  rw [← List.drop_drop, pastHeader]
  exact slice

/-- Settles O46: the header's fields, where each piece lies, and the piece's fields together. -/
theorem segmentImage : Obligations.SegmentImage := by
  intro p k store hpos hdur hrate htime hstore htext b0 b1 eligible pieces size img
  have hpieces : pieces = pieceEntries b0 b1 store := by
    simp only [pieces, eligible, pieceEntries, eligible_eq_decide, Config.pieceMax]
  have hsize : size = fun e => 16 + round8 e.text.length := by
    simp only [size, round8_eq]
  have hleft : leftOut b0 b1 store = eligible.length - pieces.length := by
    rw [leftOut_eq, hpieces, eligible_eq_decide]
  have hlength : img.length = segmentSize pieces := hpieces ▸ length_segmentBytes p k store
  obtain ⟨hmagic, hbytes, hcount, hout, hheader⟩ := segmentBytes_fields hpos hdur hrate htime hstore htext
  rw [← hpieces, ← hlength] at hbytes
  rw [← hpieces] at hcount
  rw [hleft] at hout
  obtain ⟨hrOut, hindex, hstart, hsegDur, hzero⟩ := hheader
  refine ⟨by rw [hlength, hsize, segmentSize], hmagic, hbytes, hcount, hout, hrOut, hindex, hstart, hsegDur, hzero, ?_⟩
  intro j e he piece
  rw [hpieces] at he
  obtain ⟨hmem, hbefore, -⟩ := mem_pieceEntries (List.mem_of_getElem? he)
  have hpiece : piece = pieceBytes b0 b1 e := by
    simp only [piece, hsize, hpieces]
    exact segmentBytes_piece he
  have hwidth : b1 - b0 < 2 ^ 32 := by
    have : b1 = b0 + p.segDur := Nat.succ_mul _ _
    omega
  obtain ⟨hfrom, hto, hflags, hslot, hstyle, hpad, hlen, hpad'⟩ := pieceBytes_fields hwidth hbefore (htext e hmem)
  have htail : size e - 16 - e.text.length = padLen e.text.length := by
    simp only [hsize, round8, Nat.add_sub_cancel_left]
  rw [hpiece, htail]
  exact ⟨hfrom, hto, hflags, hslot, hstyle, hpad, hlen, hpad', pieceBytes_drop b0 b1 e⟩

end Sys2Proof.Machine
end

section
/-! The duck envelope (R75, R76): its value in each phase, its bounds, and the smallest over a table. -/

namespace Sys2Proof.Machine

open Sys2Proof

/-! ## The envelope of one clip, phase by phase (R75) -/

theorem ClipEntry.envelope_before {e : ClipEntry} {n : Nat} (h : n + e.attack < e.start) : e.envelope n = 16384 :=
  if_pos h

theorem ClipEntry.envelope_attack {e : ClipEntry} {n : Nat} (h : e.start ≤ n + e.attack) (h' : n < e.start) :
    e.envelope n = 16384 - (16384 - e.duck) * (n + e.attack - e.start) / e.attack := by
  rw [envelope, if_neg h.not_gt, if_pos h']

theorem ClipEntry.envelope_hold {e : ClipEntry} {n : Nat} (h : e.start ≤ n) (h' : n < e.start + e.len) :
    e.envelope n = e.duck := by
  rw [envelope, if_neg (by omega), if_neg h.not_gt, if_pos h']

theorem ClipEntry.envelope_release {e : ClipEntry} {n : Nat} (h : e.start + e.len ≤ n)
    (h' : n < e.start + e.len + e.release) :
    e.envelope n = e.duck + (16384 - e.duck) * (n - (e.start + e.len)) / e.release := by
  rw [envelope, if_neg (by omega), if_neg (by omega), if_neg h.not_gt, if_pos h', Nat.sub_sub]

theorem ClipEntry.envelope_after {e : ClipEntry} {n : Nat} (h : e.start + e.len + e.release ≤ n) :
    e.envelope n = 16384 := by
  rw [envelope, if_neg (by omega), if_neg (by omega), if_neg (by omega), if_neg h.not_gt]

/-! ## Its bounds -/

/-- A ramp that has gone x of its r samples has covered no more than its whole height. -/
theorem ramp_le {height x r : Nat} (h : x ≤ r) : height * x / r ≤ height :=
  Nat.div_le_of_le_mul (by rw [Nat.mul_comm r]; exact Nat.mul_le_mul_left height h)

/-- R75: the attack falls from unity by its ramp, with nothing lost to the subtraction. -/
theorem ClipEntry.envelope_attack_add {e : ClipEntry} {n : Nat} (h : e.start ≤ n + e.attack) (h' : n < e.start) :
    e.envelope n + (16384 - e.duck) * (n + e.attack - e.start) / e.attack = 16384 := by
  have fall : (16384 - e.duck) * (n + e.attack - e.start) / e.attack ≤ 16384 - e.duck := ramp_le (by omega)
  rw [envelope_attack h h']
  omega

/-- R75: every value lies from the clip's depth to unity. -/
theorem ClipEntry.envelope_mem_range {e : ClipEntry} (n : Nat) (hd : e.duck ≤ 16384) :
    e.duck ≤ e.envelope n ∧ e.envelope n ≤ 16384 := by
  obtain before | attackBegan := Nat.lt_or_ge (n + e.attack) e.start
  · simpa [envelope_before before] using hd
  obtain attack | bodyBegan := Nat.lt_or_ge n e.start
  · have fall : (16384 - e.duck) * (n + e.attack - e.start) / e.attack ≤ 16384 - e.duck := ramp_le (by omega)
    rw [envelope_attack attackBegan attack]
    refine ⟨?_, Nat.sub_le _ _⟩
    calc e.duck
      _ = 16384 - (16384 - e.duck) := (Nat.sub_sub_self hd).symm
      _ ≤ _ := Nat.sub_le_sub_left fall 16384
  obtain hold | releaseBegan := Nat.lt_or_ge n (e.start + e.len)
  · simpa [envelope_hold bodyBegan hold] using hd
  obtain release | after := Nat.lt_or_ge n (e.start + e.len + e.release)
  · have rise : (16384 - e.duck) * (n - (e.start + e.len)) / e.release ≤ 16384 - e.duck := ramp_le (by omega)
    rw [envelope_release releaseBegan release]
    exact ⟨Nat.le_add_right _ _, (Nat.add_le_add_left rise _).trans_eq (Nat.add_sub_of_le hd)⟩
  · simpa [envelope_after after] using hd

/-! ## The programme envelope (R76) -/

/-- A running minimum is a lower bound of its start and of every value, and is one of them. -/
theorem foldl_min_spec {α : Type} (f : α → Nat) (xs : List α) (init : Nat) :
    let least := xs.foldl (fun m x => min m (f x)) init
    least ≤ init ∧ (∀ x ∈ xs, least ≤ f x) ∧ (least = init ∨ ∃ x ∈ xs, least = f x) := by
  induction xs generalizing init with
  | nil => simp
  | cons x xs ih =>
    intro least
    obtain ⟨below, belowEach, attained⟩ : least ≤ min init (f x) ∧ (∀ y ∈ xs, least ≤ f y)
        ∧ (least = min init (f x) ∨ ∃ y ∈ xs, least = f y) := ih (min init (f x))
    refine ⟨below.trans (min_le_left _ _), List.forall_mem_cons.mpr ⟨below.trans (min_le_right _ _), belowEach⟩, ?_⟩
    rw [List.exists_mem_cons_iff, ← or_assoc]
    exact attained.imp_left fun h => (min_choice init (f x)).imp h.trans h.trans

theorem duckEnvelope_spec (v : List ClipEntry) (n : Nat) :
    duckEnvelope v n ≤ 16384 ∧ (∀ e ∈ v, duckEnvelope v n ≤ e.envelope n)
      ∧ (duckEnvelope v n = 16384 ∨ ∃ e ∈ v, duckEnvelope v n = e.envelope n) :=
  foldl_min_spec (ClipEntry.envelope · n) v 16384

end Sys2Proof.Machine
end

section
/-! The mix of a block (R80, R88 to R90): accumulators, clip runs, rounding and saturation, and the bytes of samples. -/

namespace Sys2Proof.Machine

open Sys2Proof

/-! ## Rounding and saturation (R90) -/

/-- R90: a / 16,384 rounded to the nearest integer, a tie to the greater. -/
theorem roundAcc_nearest (a : Int) :
    2 * (16384 * roundAcc a) ≤ 2 * a + 16384 ∧ 2 * a + 16384 < 2 * (16384 * (roundAcc a + 1)) := by
  unfold roundAcc
  omega

/-- Unity gain is undone by the rounding. -/
theorem roundAcc_mul_unity (x : Int) : roundAcc (x * 16384) = x := by
  unfold roundAcc
  omega

theorem saturate_of_mem_range {x : Int} (h : -32768 ≤ x) (h' : x ≤ 32767) : saturate x = x := by
  rw [saturate, if_neg h'.not_gt, if_neg h.not_gt]

theorem saturate_mem_range (x : Int) : -32768 ≤ saturate x ∧ saturate x ≤ 32767 := by
  unfold saturate
  split_ifs <;> omega

theorem saturate_eq_self_iff {x : Int} : saturate x = x ↔ -32768 ≤ x ∧ x ≤ 32767 :=
  ⟨fun h => h ▸ saturate_mem_range x, fun ⟨h, h'⟩ => saturate_of_mem_range h h'⟩

theorem isClipped_eq_false_iff (a : Int) : isClipped a = false ↔ saturate (roundAcc a) = roundAcc a := by
  rw [saturate_eq_self_iff, isClipped, Bool.or_eq_false_iff, decide_eq_false_iff_not, decide_eq_false_iff_not,
    Int.not_lt, Int.not_lt, and_comm]

/-! ## One accumulator and the accumulators of a block (R89) -/

/-- R89: the programme at its gain, and each clip run at its own in its body on its channels. -/
theorem mixOne_eq (p : Params) (v : List ClipEntry) (runs : List (ClipEntry × List (BitVec 16)))
    (samples : List (BitVec 16)) (n0 f ch : Nat) :
    mixOne p v runs samples n0 f ch =
      (samples.getD (f * p.chans + ch) 0).toInt
          * (if p.duckMask.getLsbD ch = true then duckEnvelope v (n0 + f) else 16384)
        + (runs.map (fun (e, xs) =>
            if e.start ≤ n0 + f ∧ n0 + f < e.start + e.len ∧ e.mask.getLsbD ch = true then
              (xs.getD (n0 + f - max n0 e.start) 0).toInt * e.gain
            else 0)).sum := by
  rw [mixOne, progGain]
  push_cast
  rfl

/-- With no clip and no duck on its channel a programme sample passes unchanged. -/
theorem mixOne_passes {p : Params} (v : List ClipEntry) (samples : List (BitVec 16)) (n0 f : Nat) {ch : Nat}
    (h : p.duckMask.getLsbD ch = false) :
    saturate (roundAcc (mixOne p v [] samples n0 f ch)) = (samples.getD (f * p.chans + ch) 0).toInt := by
  have unity : mixOne p v [] samples n0 f ch = (samples.getD (f * p.chans + ch) 0).toInt * 16384 := by
    simp [mixOne, progGain, h]
  rw [unity, roundAcc_mul_unity]
  exact saturate_of_mem_range (BitVec.le_toInt _) (Int.le_sub_one_of_lt BitVec.toInt_lt)

/-- Rows of one width laid end to end: element c of row i stands at i · w + c. -/
theorem getElem?_flatten_rows {α β : Type} {row : α → List β} {w : Nat} (width : ∀ x, (row x).length = w) {xs : List α}
    {i : Nat} {x : α} (h : xs[i]? = some x) {c : Nat} (hc : c < w) :
    ((xs.map row).flatten)[i * w + c]? = (row x)[c]? := by
  obtain ⟨hi, -⟩ := List.getElem?_eq_some_iff.mp h
  have slice := take_drop_flatten_map row h
  simp only [width, List.map_const', List.sum_replicate_nat, List.length_take, Nat.min_eq_left hi.le] at slice
  rw [← slice, List.getElem?_take_of_lt hc, List.getElem?_drop]

theorem length_mixBlock (p : Params) (v : List ClipEntry) (runs : List (ClipEntry × List (BitVec 16)))
    (samples : List (BitVec 16)) (n0 k : Nat) : (mixBlock p v runs samples n0 k).length = k * p.chans := by
  simp [mixBlock, List.length_flatten, Function.comp_def]

/-- R89: frame by frame, channel 0 first. -/
theorem getElem?_mixBlock (p : Params) (v : List ClipEntry) (runs : List (ClipEntry × List (BitVec 16)))
    (samples : List (BitVec 16)) (n0 : Nat) {k f ch : Nat} (hf : f < k) (hch : ch < p.chans) :
    (mixBlock p v runs samples n0 k)[f * p.chans + ch]? = some (mixOne p v runs samples n0 f ch) := by
  rw [mixBlock, getElem?_flatten_rows (by simp) (List.getElem?_range hf) hch]
  simp [hch]

/-! ## The clips a block needs and their runs (R88) -/

theorem maskBelow_iff (mask : BitVec 8) (c : Nat) :
    maskBelow mask c = true ↔ ∃ ch : Fin 8, ch.val < c ∧ mask.getLsbD ch.val = true := by
  simp only [maskBelow, List.any_eq_true, List.mem_range]
  constructor
  · rintro ⟨ch, below, set⟩
    exact ⟨⟨ch, BitVec.lt_of_getLsbD set⟩, below, set⟩
  · rintro ⟨ch, below, set⟩
    exact ⟨ch.val, below, set⟩

theorem neededClips_eq (v : List ClipEntry) (c n0 k : Nat) :
    neededClips v c n0 k = v.filter (fun e => decide
      (e.start < n0 + k ∧ n0 < e.start + e.len ∧ ∃ ch : Fin 8, ch.val < c ∧ e.mask.getLsbD ch.val = true)) := by
  refine List.filter_congr fun e _ => Bool.eq_iff_iff.mpr ?_
  simp only [ClipEntry.overlaps, Bool.and_eq_true, decide_eq_true_eq, maskBelow_iff, and_assoc]

/-- R88: the run of a body that meets the block is its samples in the block. -/
theorem mem_run_iff {e : ClipEntry} {n0 k : Nat} (j : Nat) (h : e.start < n0 + k) (h' : n0 < e.start + e.len) :
    runFirst e n0 ≤ j ∧ j < runFirst e n0 + runCount e n0 k ↔ j < e.len ∧ n0 ≤ e.start + j ∧ e.start + j < n0 + k := by
  unfold runFirst runCount
  omega

/-! ## Samples as bytes (R80) -/

/-- The two bytes of a 16-bit little-endian word, as a field and as a word. -/
theorem leField_word (lo hi : Byte) (rest : List Byte) :
    BitVec.ofNat 16 (leField (lo :: hi :: rest) 0 2) = hi ++ lo := by
  have value : leField (lo :: hi :: rest) 0 2 = 2 ^ 8 * hi.toNat + lo.toNat := by
    simp [leField, leNat, Nat.add_comm]
  apply BitVec.eq_of_toNat_eq
  rw [value, BitVec.toNat_append, Nat.shiftLeft_eq, Nat.mul_comm (hi.toNat), ← Nat.two_pow_add_eq_or_of_lt lo.isLt]
  have := lo.isLt
  have := hi.isLt
  simp only [BitVec.toNat_ofNat]
  omega

theorem length_samplesOf (bytes : List Byte) : (samplesOf bytes).length = bytes.length / 2 := by
  induction bytes using samplesOf.induct with
  | case1 lo hi rest ih =>
    simp only [samplesOf, List.length_cons, ih]
    omega
  | case2 bytes short =>
    match bytes with
    | [] | [_] => simp [samplesOf]
    | lo :: hi :: rest => exact absurd rfl (short lo hi rest)

/-- R80: sample j is the little-endian word at byte 2j. -/
theorem getElem?_samplesOf {bytes : List Byte} {j : Nat} (h : j < bytes.length / 2) :
    (samplesOf bytes)[j]? = some (BitVec.ofNat 16 (leField bytes (2 * j) 2)) := by
  induction bytes using samplesOf.induct generalizing j with
  | case1 lo hi rest ih =>
    cases j with
    | zero => simp [samplesOf, leField_word]
    | succ j =>
      simp only [List.length_cons] at h
      exact ih (by omega)
  | case2 bytes short =>
    match bytes with
    | [] | [_] => simp at h
    | lo :: hi :: rest => exact absurd rfl (short lo hi rest)

/-- Reading back what was written: the two bytes of a sample are the word they were cut from. -/
theorem samplesOf_sampleBytes_append (x : Int) (rest : List Byte) :
    samplesOf (sampleBytes x ++ rest) = BitVec.ofInt 16 x :: samplesOf rest := by
  simp only [sampleBytes, List.cons_append, List.nil_append, samplesOf, List.cons.injEq, and_true]
  rw [BitVec.extractLsb'_append_extractLsb'_eq_extractLsb' (by rfl), BitVec.extractLsb'_eq_self]

theorem samplesOf_mixedBytes (acc : List Int) :
    samplesOf (mixedBytes acc) = acc.map (fun a => BitVec.ofInt 16 (saturate (roundAcc a))) := by
  induction acc with
  | nil => rfl
  | cons a acc ih =>
    calc samplesOf (mixedBytes (a :: acc))
      _ = samplesOf (sampleBytes (saturate (roundAcc a)) ++ mixedBytes acc) := rfl
      _ = _ := by rw [samplesOf_sampleBytes_append, ih, List.map_cons]

theorem length_mixedBytes (acc : List Int) : (mixedBytes acc).length = 2 * acc.length := by
  simp [mixedBytes, sampleBytes, List.length_flatten, Function.comp_def, Nat.mul_comm]

/-- R90, R91: the bytes written hold the saturated samples, in order. -/
theorem leField_mixedBytes {acc : List Int} {j : Nat} {a : Int} (h : acc[j]? = some a) :
    BitVec.ofNat 16 (leField (mixedBytes acc) (2 * j) 2) = BitVec.ofInt 16 (saturate (roundAcc a)) := by
  obtain ⟨hj, -⟩ := List.getElem?_eq_some_iff.mp h
  have read := getElem?_samplesOf (bytes := mixedBytes acc) (j := j) (by rw [length_mixedBytes]; omega)
  rw [samplesOf_mixedBytes, List.getElem?_map, h] at read
  exact (Option.some.inj read).symm

/-- Settles O60: the envelope, the accumulators of a block, its clip runs, rounding, saturation and sample bytes
together. -/
theorem mixArithmetic : Obligations.MixArithmetic :=
  ⟨fun _ n hd => ⟨(ClipEntry.envelope_mem_range n hd).1, (ClipEntry.envelope_mem_range n hd).2,
      ClipEntry.envelope_attack_add, ClipEntry.envelope_hold, ClipEntry.envelope_release,
      fun h => h.elim ClipEntry.envelope_before ClipEntry.envelope_after⟩,
    duckEnvelope_spec,
    roundAcc_nearest,
    fun a => ⟨(saturate_mem_range _).1, (saturate_mem_range _).2, isClipped_eq_false_iff a⟩,
    fun _ v samples n0 f _ => mixOne_passes v samples n0 f,
    mixOne_eq,
    fun p v runs samples n0 k =>
      ⟨length_mixBlock p v runs samples n0 k, fun _ _ => getElem?_mixBlock p v runs samples n0⟩,
    neededClips_eq,
    fun _ _ _ j => mem_run_iff j,
    fun bytes _ => ⟨length_samplesOf bytes, getElem?_samplesOf⟩,
    fun acc _ _ => ⟨length_mixedBytes acc, leField_mixedBytes⟩⟩

end Sys2Proof.Machine
end

section
/-! The grants of the engines (R88, R131 to R133): the round-robin order, which lane an engine is granted to, and the
unit that the grant begins. -/

namespace Sys2Proof.Machine

open Sys2Proof

/-! ## The round-robin order (R132) -/

/-- How many lanes come before lane i in the order that begins after the pointer p. -/
def grantDelay (p i : LaneId) : Nat := (i.val + 15 - p.val) % 16

@[simp] theorem length_grantOrder (p : LaneId) : (grantOrder p).length = 16 := by
  simp [grantOrder]

theorem getElem_grantOrder_val {p : LaneId} {k : Nat} (h : k < (grantOrder p).length) :
    ((grantOrder p)[k]).val = (p.val + 1 + k) % 16 := by
  simp [grantOrder]

theorem grantDelay_lt (p i : LaneId) : grantDelay p i < (grantOrder p).length := by
  rw [length_grantOrder]
  exact Nat.mod_lt _ (by decide)

/-- Every lane stands in the order, at its delay. -/
theorem getElem_grantOrder_grantDelay (p i : LaneId) : (grantOrder p)[grantDelay p i]'(grantDelay_lt p i) = i := by
  apply Fin.ext
  rw [getElem_grantOrder_val, grantDelay]
  omega

/-- A lane's delay is the one place where it stands. -/
theorem grantDelay_getElem_grantOrder {p : LaneId} {k : Nat} (h : k < (grantOrder p).length) :
    grantDelay p (grantOrder p)[k] = k := by
  rw [grantDelay, getElem_grantOrder_val]
  rw [length_grantOrder] at h
  omega

/-- R132: the search in the order finds the wanting lane of the least delay. -/
theorem find?_grantOrder_eq_some {p i : LaneId} {wants : LaneId → Bool} (want : wants i = true)
    (first : ∀ j, wants j = true → grantDelay p i ≤ grantDelay p j) : (grantOrder p).find? wants = some i := by
  refine List.find?_eq_some_iff_getElem.mpr
    ⟨want, grantDelay p i, grantDelay_lt p i, getElem_grantOrder_grantDelay p i, fun k before => ?_⟩
  have inOrder : k < (grantOrder p).length := before.trans (grantDelay_lt p i)
  rw [Bool.not_eq_true', Bool.eq_false_iff]
  intro wanted
  have later : grantDelay p i ≤ k := grantDelay_getElem_grantOrder inOrder ▸ first _ wanted
  exact absurd before later.not_gt

theorem find?_grantOrder_eq_none {wants : LaneId → Bool} (p : LaneId) (none_wants : ∀ i, ¬wants i = true) :
    (grantOrder p).find? wants = none :=
  List.find?_eq_none.mpr fun i _ => none_wants i

/-! ## Requests (R131) -/

theorem Lane.mixBody_isSome_iff (l : Lane) : l.mixBody.isSome = true ↔ l.cur.bind Record.kind = some .mix := by
  unfold Lane.mixBody
  cases l.cur with
  | none => simp
  | some c => by_cases mix : c.kind = some .mix <;> simp [mix]

theorem Lane.wantsMix_iff (l : Lane) :
    l.wantsMix = true ↔ l.state = .queued ∧ l.cur.bind Record.kind = some .mix := by
  rw [Lane.wantsMix, Bool.and_eq_true, decide_eq_true_iff, Lane.mixBody_isSome_iff]

theorem Lane.wantsTiming_iff (l : Lane) :
    l.wantsTiming = true ↔ l.state = .queued ∧ l.cur.bind Record.kind ≠ some .mix := by
  rw [Lane.wantsTiming, Bool.and_eq_true, decide_eq_true_iff, Bool.not_eq_true', Bool.eq_false_iff, ne_eq,
    Lane.mixBody_isSome_iff]

/-! ## The Timing Engine's grant (R132) -/

theorem State.timingPick_eq_some {s : State} {i : LaneId} (free : s.timing.owner = none) (run : s.hold = false)
    (want : (s.lane i).wantsTiming = true)
    (first : ∀ j, (s.lane j).wantsTiming = true → grantDelay s.timing.ptr i ≤ grantDelay s.timing.ptr j) :
    s.timingPick = some i := by
  simpa [State.timingPick, free, run] using find?_grantOrder_eq_some want first

theorem State.timingPick_eq_none {s : State}
    (h : s.timing.owner ≠ none ∨ s.hold = true ∨ ∀ i, ¬(s.lane i).wantsTiming = true) : s.timingPick = none := by
  obtain taken | hold | idle := h
  · simp [State.timingPick, taken]
  · simp [State.timingPick, hold]
  · rw [State.timingPick, find?_grantOrder_eq_none _ idle, ite_self]

theorem exec_timingEngineGrant (s : State) :
    exec .timingEngineGrant s = .next (s.onLinkOf s.timingPick s.grantTiming) := rfl

theorem exec_timingEngineGrant_of_none {s : State} (h : s.timingPick = none) : exec .timingEngineGrant s = .next s := by
  rw [exec_timingEngineGrant, State.grantTiming, h, State.onLinkOf_none]

/-- The state in which lane i has just been granted the Timing Engine. -/
def State.withTimingGranted (s : State) (i : LaneId) : State :=
  { s.setLane i { s.lane i with state := .working } with timing := { s.timing with owner := some i, ptr := i } }

theorem State.lane_withTimingGranted (s : State) (i : LaneId) :
    (s.withTimingGranted i).lane i = { s.lane i with state := .working } :=
  State.lane_setLane_same _ _ _

theorem exec_timingEngineGrant_of_some {s : State} {i : LaneId} (h : s.timingPick = some i) :
    exec .timingEngineGrant s = .next (s.onLink i ((s.withTimingGranted i).beginUnit i)) := by
  rw [exec_timingEngineGrant, State.grantTiming, h]
  rfl

/-- R46, R51, R52: the built segment waits in the buffer for its write or its comparison, unless it does not fit. -/
theorem State.beginSegment_eq (s : State) (i : LaneId) (c : Record) :
    s.beginSegment i c =
      if c.ex.areaOff + (segmentBytes (s.lane i).par (s.lane i).nextSeg (s.lane i).store).length
          ≤ (EmitBody.ofBytes c.fields).cap then
        { s with timing := { s.timing with
            unit := if (EmitBody.ofBytes c.fields).compare then .compare else .segWrite
            buffer := segmentBytes (s.lane i).par (s.lane i).nextSeg (s.lane i).store } }
      else s.releaseTiming.retire i .partialDone .areaFull := by
  rw [← ite_not]
  simp only [State.beginSegment, Nat.not_le]

theorem State.beginUnit_eq {s : State} {i : LaneId} {c : Record} (h : (s.lane i).cur = some c) :
    s.beginUnit i =
      if c.kind = some .emit then s.beginSegment i c
      else { s with timing := { s.timing with unit := if c.kind = some .clip then .clip else .cue } } := by
  simp only [State.beginUnit, h]
  split_ifs <;> rfl

/-- Settles O43: the pick by the round-robin order, then the unit by the record's kind. -/
theorem timingEngineGranted : Obligations.TimingEngineGranted := by
  intro s wants after
  have wants_iff (i : LaneId) : (s.lane i).wantsTiming = true ↔ wants i := Lane.wantsTiming_iff _
  constructor
  · intro h
    refine exec_timingEngineGrant_of_none (State.timingPick_eq_none (h.imp_right (Or.imp_right fun idle i => ?_)))
    exact (wants_iff i).not.mpr (idle i)
  · intro i c free run want first cur t b img
    have pick : s.timingPick = some i :=
      State.timingPick_eq_some free run ((wants_iff i).mpr want) fun j hj => first j ((wants_iff j).mp hj)
    have lane := s.lane_withTimingGranted i
    have record : ((s.withTimingGranted i).lane i).cur = some c := by rw [lane, cur]
    rw [exec_timingEngineGrant_of_some pick, State.beginUnit_eq record, State.beginSegment_eq, lane]
    rfl

/-! ## The Mix Engines' grants (R133) -/

@[simp] theorem State.setMix_setMix (s : State) (e : MixId) (m m' : MixEngine) :
    (s.setMix e m).setMix e m' = s.setMix e m' := by
  simp [State.setMix]

/-- R133: engine 0 is granted before engine 1. -/
theorem State.freeMix_eq_some {s : State} {e : MixId} (free : (s.mixEng e).owner = none)
    (lower : e = 0 ∨ (s.mixEng 0).owner ≠ none) : s.freeMix = some e := by
  obtain rfl | taken := lower
  · simp [State.freeMix, free]
  · obtain rfl : e = 1 := Fin.eq_one_of_ne_zero e fun h => taken (h ▸ free)
    simp [State.freeMix, free, taken]

theorem State.freeMix_eq_none {s : State} (taken : (s.mixEng 0).owner ≠ none) (taken' : (s.mixEng 1).owner ≠ none) :
    s.freeMix = none := by
  simp [State.freeMix, taken, taken']

theorem State.mixPick_eq_some {s : State} {i : LaneId} (run : s.hold = false) (want : (s.lane i).wantsMix = true)
    (first : ∀ j, (s.lane j).wantsMix = true → grantDelay s.mixPtr i ≤ grantDelay s.mixPtr j) : s.mixPick = some i := by
  simpa [State.mixPick, run] using find?_grantOrder_eq_some want first

theorem State.mixPick_eq_none {s : State} (h : s.hold = true ∨ ∀ i, ¬(s.lane i).wantsMix = true) :
    s.mixPick = none := by
  obtain hold | idle := h
  · simp [State.mixPick, hold]
  · rw [State.mixPick, find?_grantOrder_eq_none _ idle, ite_self]

theorem exec_mixEngineGrant (s : State) : exec .mixEngineGrant s = .next (s.onLinkOf s.mixGrantee s.grantMix) := rfl

theorem exec_mixEngineGrant_of_none {s : State} (h : s.freeMix = none ∨ s.mixPick = none) :
    exec .mixEngineGrant s = .next s := by
  have grantee : s.mixGrantee = none := by
    obtain engine | pick := h
    · simp [State.mixGrantee, engine]
    · simp [State.mixGrantee, pick]
  have kept : s.grantMix = s := by
    unfold State.grantMix
    split
    next engine pick => simp [engine, pick] at h
    all_goals rfl
  rw [exec_mixEngineGrant, grantee, kept, State.onLinkOf_none]

/-- The state in which lane i has just been granted a Mix Engine, before its unit begins on the engine. -/
def State.withMixGranted (s : State) (i : LaneId) : State :=
  { s.setLane i { s.lane i with state := .working } with mixPtr := i }

theorem State.lane_withMixGranted (s : State) (i : LaneId) :
    (s.withMixGranted i).lane i = { s.lane i with state := .working } :=
  State.lane_setLane_same _ _ _

theorem exec_mixEngineGrant_of_some {s : State} {e : MixId} {i : LaneId} (engine : s.freeMix = some e)
    (pick : s.mixPick = some i) :
    exec .mixEngineGrant s = .next (s.onLink i ((s.withMixGranted i).beginMix e i)) := by
  rw [exec_mixEngineGrant, State.mixGrantee, State.grantMix, engine, pick]
  rfl

theorem Lane.headBlock_of_read {l : Lane} {off k : Nat} {samples : List (BitVec 16)} {rest : List QBlock}
    (h : l.pf.queue = .read off k samples :: rest) : l.headBlock = some (off, k, samples) := by
  rw [Lane.headBlock, h]

/-- R88, R89: a unit whose block meets no clip has its block mixed at once; any other reads its clips first. -/
theorem State.beginMix_eq {s : State} {e : MixId} {i : LaneId} {off k : Nat} {samples : List (BitVec 16)}
    (head : (s.lane i).headBlock = some (off, k, samples)) :
    let l := s.lane i
    s.beginMix e i =
      if neededClips l.table l.par.chans (l.base + off) k = [] then
        s.setMix e { owner := some i, view := l.table, phase := .writing
                     acc := mixBlock l.par l.table [] samples (l.base + off) k }
      else s.setMix e { owner := some i, view := l.table, acc := [], phase := .reading } := by
  simp only [State.beginMix, head, List.isEmpty_iff, State.computeBlock, State.mixEng_setMix_same, List.zip_nil_right,
    State.setMix_setMix]

/-- R89: with the run of every clip it needs the block is mixed over the unit's view. -/
theorem State.clipsRead_eq {s : State} {e : MixId} {i : LaneId} {off k : Nat} {samples : List (BitVec 16)}
    {runs : List (List Byte)} (owner : (s.mixEng e).owner = some i) (reading : (s.mixEng e).phase = .reading)
    (head : (s.lane i).headBlock = some (off, k, samples))
    (fit : runsFit (neededClips (s.mixEng e).view (s.lane i).par.chans ((s.lane i).base + off) k)
      ((s.lane i).base + off) k runs = true) :
    s.clipsRead e runs = s.computeBlock e (s.lane i) off k samples (runs.map samplesOf) := by
  simp only [State.clipsRead, owner, head, reading, fit, and_self, if_true]

theorem exec_clipSampleReadComplete {s : State} {e : MixId} {i : LaneId} (runs : List (List Byte))
    (owner : (s.mixEng e).owner = some i) :
    exec (.clipSampleReadComplete e runs) s = .next (s.onLink i (s.clipsRead e runs)) := by
  calc exec (.clipSampleReadComplete e runs) s
    _ = .next (s.onLinkOf (s.mixEng e).owner (s.clipsRead e runs)) := rfl
    _ = _ := by rw [owner, State.onLinkOf_some]

/-- Settles O50: the engine, the pick by the round-robin order, then the unit's begin and the end of its clip reads. -/
theorem mixEngineGranted : Obligations.MixEngineGranted := by
  intro s wants after
  have wants_iff (i : LaneId) : (s.lane i).wantsMix = true ↔ wants i := Lane.wantsMix_iff _
  refine ⟨?_, ?_, ?_⟩
  · rintro (⟨taken, taken'⟩ | hold | idle)
    · exact exec_mixEngineGrant_of_none (.inl (State.freeMix_eq_none taken taken'))
    · exact exec_mixEngineGrant_of_none (.inr (State.mixPick_eq_none (.inl hold)))
    · exact exec_mixEngineGrant_of_none (.inr (State.mixPick_eq_none (.inr fun i => (wants_iff i).not.mpr (idle i))))
  · intro i e off k samples rest free lower run want first head l t
    have pick : s.mixPick = some i :=
      State.mixPick_eq_some run ((wants_iff i).mpr want) fun j hj => first j ((wants_iff j).mp hj)
    have lane := s.lane_withMixGranted i
    have block : ((s.withMixGranted i).lane i).headBlock = some (off, k, samples) :=
      Lane.headBlock_of_read (by rw [lane, head])
    rw [exec_mixEngineGrant_of_some (State.freeMix_eq_some free lower) pick, State.beginMix_eq block, lane]
    rfl
  · intro i e runs off k samples rest owner reading head l need fit
    rw [exec_clipSampleReadComplete runs owner,
      State.clipsRead_eq owner reading (Lane.headBlock_of_read head) (decide_eq_true fit), State.computeBlock]

end Sys2Proof.Machine
end

section
/-! The shared operations as equations: how a write sequence starts, goes on and ends, and what a retirement and a failure
of a record leave of the lane (R109 to R113, R141 to R145, R160). -/

namespace Sys2Proof.Machine

open Sys2Proof

/-! ## What a lane gives up -/

theorem BlockRead.makeStale_eq (r : BlockRead) : r.makeStale = if r = .none then .none else .stale := by
  cases r <;> rfl

theorem Lane.stopWork_eq (l : Lane) : l.stopWork = l.workEnded := by
  simp only [Lane.stopWork, Lane.workEnded, Prefetch.discard, Gate.clear, BlockRead.makeStale_eq]

/-! ## Outcomes that are final (R114) -/

theorem RecOutcome.final_eq (o : RecOutcome) : o.final = !decide (o = .failed ∨ o = .halted) := by
  cases o <;> rfl

theorem RecOutcome.ite_final {α : Type} (o : RecOutcome) (x y : α) :
    (if o.final = true then x else y) = if o = .failed ∨ o = .halted then y else x := by
  cases o <;> rfl

/-! ## How a write sequence goes on (R111) -/

theorem State.runSeq_of_waiting {s : State} {i : LaneId}
    (h : ∀ q, (s.lane i).io = .seq q → q.begun = false ∨ ∃ k a b rest, q.steps = .write k a b :: rest) :
    s.runSeq i = s := by
  unfold State.runSeq
  split
  next q io =>
    obtain waits | ⟨k, a, b, rest, steps⟩ := h q io
    · simp [waits]
    · simp [steps]
  all_goals rfl

theorem State.runSeq_of_nil {s : State} {i : LaneId} {q : WriteSeq} (io : (s.lane i).io = .seq q)
    (begun : q.begun = true) (steps : q.steps = []) : s.runSeq i = s.finishSeq i q false := by
  simp [State.runSeq, io, begun, steps]

theorem State.runSeq_of_notice {s : State} {i : LaneId} {q : WriteSeq} {n : Notice} {rest : List SeqStep}
    (io : (s.lane i).io = .seq q) (begun : q.begun = true) (steps : q.steps = .notice n :: rest) :
    s.runSeq i = s.handNotice i q n := by
  simp [State.runSeq, io, begun, steps]

theorem State.startRead_eq (s : State) (i : LaneId) (st : LaneState) (r : LaneRead) :
    s.startRead i st r = s.setLane i { s.lane i with state := st, io := .read r (!s.hold) } := rfl

theorem State.goOn_eq (s : State) (i : LaneId) (kept : Bool) :
    s.goOn i kept = s.setLane i
      (if kept then { s.lane i with state := .noticeWait, waitAct := .fetch, io := .idle }
       else { s.lane i with state := .fetching, io := .read (.header false) (!s.hold) }) := by
  cases kept <;> rfl

/-- The end of a sequence that is no teardown's is the end of its event. -/
theorem State.finishSeq_eq {s : State} {i : LaneId} {q : WriteSeq} (kept : Bool) (h : q.kind ≠ .teardown) :
    s.finishSeq i q kept = s.setLane i ((s.lane i).eventEnded q kept s.hold) := by
  unfold State.finishSeq Lane.eventEnded
  rw [if_neg h]
  by_cases abandoning : (s.lane i).state = .abandoning
  · simp [abandoning, State.modLane_eq]
  · simp only [if_neg abandoning]
    cases kind : q.kind with
    | retire r =>
      dsimp only
      rw [RecOutcome.ite_final, State.goOn_eq]
      split <;> rfl
    | stop =>
      by_cases stopped : (s.lane i).state = .stopped
      · simp [stopped, State.modLane_eq]
      · simp [stopped, State.goOn_eq]
    | linkPass => exact State.goOn_eq s i kept
    | entryHalt => rfl
    | rehalt => rfl
    | teardown => exact absurd kind h

theorem State.finishSeq_teardown {s : State} {i : LaneId} {q : WriteSeq} (kept : Bool) (h : q.kind = .teardown) :
    s.finishSeq i q kept = s.setLane i ((s.lane i).tornDown q.failed) := by
  rw [State.finishSeq, if_pos h, State.modLane_eq]

/-- The place of a deferred notice plays no part in how an event ends. -/
theorem Lane.eventEnded_deferred (l : Lane) (q : WriteSeq) (kept hold : Bool) (n : Notice) :
    ({ l with deferred := some n } : Lane).eventEnded q kept hold =
      { l.eventEnded q kept hold with deferred := some n } := by
  simp only [Lane.eventEnded]
  repeat' split
  all_goals rfl

theorem State.handNotice_eq (s : State) (i : LaneId) (q : WriteSeq) (n : Notice) :
    s.handNotice i q n = s.setLane i ((s.lane i).noticeHanded q n (s.pend.getLsbD i.val) s.hold) := by
  unfold State.handNotice Lane.noticeHanded
  by_cases busy : (s.lane i).slot = none
  · rw [if_neg (by simp [busy]), if_neg (not_not_intro busy)]
    by_cases teardown : q.kind = .teardown
    · rw [if_pos teardown, if_pos teardown, State.modLane_eq]
    · rw [if_neg teardown, if_neg teardown]
      split
      · rw [State.finishSeq_eq true teardown, State.lane_modLane_same, Lane.eventEnded_deferred, State.modLane_eq,
          State.setLane_setLane]
        rfl
      · exact State.modLane_eq _ _ _
  · rw [if_pos (Option.isSome_iff_ne_none.mpr busy), if_pos busy, State.setLane_lane]

theorem State.startSeq_eq_runSeq (s : State) (i : LaneId) (st : LaneState) (k : SeqKind) (steps : List SeqStep)
    (begun : Bool) :
    s.startSeq i st k steps begun = (s.setLane i
      { s.lane i with
        state := st, io := .seq { kind := k, steps := steps, begun := begun, failed := false } }).runSeq i := rfl

/-- A sequence whose first step is a write stands at that write as it starts. -/
theorem State.startSeq_of_write {s : State} {i : LaneId} {st : LaneState} {k : SeqKind} {steps : List SeqStep}
    {begun : Bool} (h : ∃ w a b rest, steps = .write w a b :: rest) :
    s.startSeq i st k steps begun = s.setLane i
      { s.lane i with
        state := st, io := .seq { kind := k, steps := steps, begun := begun, failed := false } } := by
  rw [State.startSeq_eq_runSeq]
  refine State.runSeq_of_waiting fun q io => .inr ?_
  rw [State.lane_setLane_same] at io
  exact (LaneIO.seq.inj io) ▸ h

theorem State.startSeq_setLane (s : State) (i : LaneId) (l : Lane) (st : LaneState) (k : SeqKind)
    (steps : List SeqStep) (begun : Bool) :
    (s.setLane i l).startSeq i st k steps begun = (s.setLane i
      { l with
        state := st, io := .seq { kind := k, steps := steps, begun := begun, failed := false } }).runSeq i := by
  rw [State.startSeq_eq_runSeq, State.lane_setLane_same, State.setLane_setLane]

/-! ## Retirement (R109 to R113) -/

theorem statusSteps_begin (c : Record) (r : RecResult) : ∃ k a b rest, statusSteps c r = .write k a b :: rest := by
  unfold statusSteps
  split <;> exact ⟨_, _, _, _, rfl⟩

theorem retireSteps_begin (s : State) (i : LaneId) (c : Record) (r : RecResult) (withStatus : Bool) :
    ∃ k a b rest, retireSteps s i c r withStatus = .write k a b :: rest := by
  cases withStatus
  · exact ⟨_, _, _, _, rfl⟩
  · obtain ⟨k, a, b, rest, h⟩ := statusSteps_begin c r
    simp [retireSteps, h]

theorem State.retire_eq {s : State} {i : LaneId} {c : Record} (o : RecOutcome) (why : Reason)
    (cur : (s.lane i).cur = some c) :
    s.retire i o why = s.setLane i (Lane.retiring s i (s.lane i) c o why) := by
  simp only [State.retire, cur]
  rw [State.modLane_eq, State.startSeq_of_write (retireSteps_begin _ _ _ _ _), Lane.stopWork_eq]
  simp [Lane.retiring, newSeq, Lane.workEnded, cur]

theorem State.retireOwed_eq (s : State) (i : LaneId) (c : Record) (o : Owed) :
    s.retireOwed i c o = s.setLane i
      { (s.lane i).workEnded with
        state := .retiring, io := newSeq s (.retire o.res) (retireSteps s i c o.res (!o.accepted)) } := by
  rw [State.retireOwed, State.modLane_eq, State.startSeq_of_write (retireSteps_begin _ _ _ _ _), Lane.stopWork_eq]
  simp [newSeq]

theorem State.retireSkipped_eq (s : State) (i : LaneId) (c : Record) :
    s.retireSkipped i c = s.setLane i
      { (s.lane i).workEnded with
        state := .retiring
        io := newSeq s
          (.retire { outcome := .skipped, reason := .none, notes := c.ex.notes, progress := c.ex.progress })
          (retireSteps s i c
            { outcome := .skipped, reason := .none, notes := c.ex.notes, progress := c.ex.progress }
            (!(c.owed.any Owed.accepted))) } := by
  rw [State.retireSkipped, State.modLane_eq, State.startSeq_of_write (retireSteps_begin _ _ _ _ _), Lane.stopWork_eq]
  simp only [State.lane_setLane_same, State.setLane_setLane, newSeq]
  cases c.owed <;> rfl

theorem State.retireDone_eq {s : State} {i : LaneId} {c : Record} (cur : (s.lane i).cur = some c) :
    s.retireDone i = s.retire i (if c.ex.notes = 0 then .done else .noted) .none := by
  simp only [State.retireDone, cur, completed]

theorem retireRest_eq (o : RecOutcome) :
    retireRest o = if o = .failed ∨ o = .halted then .halted else .running := RecOutcome.ite_final o _ _

theorem retireTarget_eq (c : Record) (o : RecOutcome) :
    retireTarget c o = if o = .failed ∨ o = .halted then c.addr else c.addr + BitVec.ofNat 64 c.len :=
  RecOutcome.ite_final o _ _

/-- R141: some note bit belongs to a kind whose policy is NOTICE. -/
theorem noticePolicyHit_iff (p : Params) (notes : BitVec 16) :
    noticePolicyHit p notes = true ↔ ∃ k : Fin 14, notes.getLsbD k.val = true ∧ p.policy.get k = .notice := by
  have onto : ∀ k : Fin 14, ∃ kind ∈ NoteKind.all, kind.idx = k := by decide
  simp only [noticePolicyHit, List.any_eq_true, Bool.and_eq_true]
  constructor
  · rintro ⟨k, -, bit, policy⟩
    exact ⟨k.idx, bit, of_decide_eq_true policy⟩
  · rintro ⟨k, bit, policy⟩
    obtain ⟨kind, mem, rfl⟩ := onto k
    exact ⟨kind, mem, bit, decide_eq_true policy⟩

theorem noticeCalled_iff (p : Params) (notify : Bool) (r : RecResult) :
    noticeCalled p notify r = true ↔ notify = true ∨ r.outcome = .failed ∨ r.outcome = .halted
      ∨ ∃ k : Fin 14, r.notes.getLsbD k.val = true ∧ p.policy.get k = .notice := by
  simp only [noticeCalled, Bool.or_eq_true, decide_eq_true_iff, noticePolicyHit_iff]
  rw [or_assoc, or_assoc, or_comm (a := ∃ _, _), or_assoc]

/-- Settles O28: the lane as the retirement begins, then its steps. -/
theorem retirementBegins : Obligations.RetirementBegins := by
  intro s i c o why cur
  refine ⟨State.retire_eq o why cur, ?_⟩
  simp only [retireSteps, retireRest_eq, retireTarget_eq, noticeCalled_iff, recordNotice, if_true]

/-! ## Failure of a record (R153, R160) -/

theorem State.failOwed_eq (s : State) (i : LaneId) (c : Record) (o : Owed) (why : Reason) :
    s.failOwed i c o why = (s.setLane i { (s.lane i).workEnded with haltReason := why }).startSeq i .retiring .rehalt
      (haltSteps s i c why o.res.notes o.res.progress) (!s.hold) := by
  rw [State.failOwed, State.modLane_eq, Lane.stopWork_eq]

theorem State.failRecord_of_clean {s : State} {i : LaneId} {c : Record} (why : Reason) (cur : (s.lane i).cur = some c)
    (owed : c.owed = none) : s.failRecord i why = s.retire i .failed why := by
  simp only [State.failRecord, cur, owed]

theorem State.failRecord_of_owed {s : State} {i : LaneId} {c : Record} {o : Owed} (why : Reason)
    (cur : (s.lane i).cur = some c) (owed : c.owed = some o) : s.failRecord i why = s.failOwed i c o why := by
  simp only [State.failRecord, cur, owed]

/-- Settles O29: the three ways a sequence goes on, its start, and the two ways a record fails. -/
theorem sequencesRun : Obligations.SequencesRun := by
  intro s i
  refine ⟨State.runSeq_of_waiting, ?_, ?_, fun _ _ _ _ => rfl, fun _ why => State.failRecord_of_clean why, ?_⟩
  · intro q n rest io begun steps
    rw [State.runSeq_of_notice io begun steps, State.handNotice_eq]
  · intro q io begun steps kind
    rw [State.runSeq_of_nil io begun steps, State.finishSeq_eq false kind]
  · intro c o why cur owed
    rw [State.failRecord_of_owed why cur owed, State.failOwed_eq]
    rfl

end Sys2Proof.Machine
end

section
/-! Invariants of a lane's track: what a `TrackStep` keeps, every command keeps. The counters (R137, R138) and the clip
tables (R67, R71, R73). -/

namespace Sys2Proof.Machine

open Sys2Proof

/-! ## From one track step to every command -/

/-- P is a law of the track: it says nothing of a lane's other items, holds after reset, and is kept by every way the
track can change. -/
structure TrackLaw (P : Lane → Prop) : Prop where
  same : ∀ {l m : Lane}, Lane.SameTrack l m → P l → P m
  reset : P Lane.reset
  step : ∀ {s t : State} {i : LaneId}, TrackStep s t i → P (s.lane i) → P (t.lane i)

theorem TrackLaw.kept {P : Lane → Prop} (law : TrackLaw P) {l m : Lane} (h : Lane.Kept l m) (hl : P l) : P m := by
  obtain same | ⟨-, -, -, same⟩ := h
  · exact law.same same hl
  · exact law.same same law.reset

theorem TrackLaw.oneTrack {P : Lane → Prop} (law : TrackLaw P) {s t : State} (h : OneTrack s t) (j : LaneId)
    (hj : P (s.lane j)) : P (t.lane j) := by
  obtain ⟨i, others, step⟩ := h
  by_cases e : j = i
  · subst e
    exact law.step step hj
  · exact law.kept (others j e) hj

theorem TrackLaw.tracks {P : Lane → Prop} (law : TrackLaw P) {s t : State} (h : Tracks s t) (j : LaneId)
    (hj : P (s.lane j)) : P (t.lane j) := by
  induction h with
  | refl => exact hj
  | step one _ ih => exact ih (law.oneTrack one j hj)

theorem TrackLaw.exec {P : Lane → Prop} (law : TrackLaw P) {c : Instr} {s t : State} (h : exec c s = .next t)
    (j : LaneId) (hj : P (s.lane j)) : P (t.lane j) := by
  obtain tracks | ⟨lanes, -⟩ := exec_tracks c s t h
  · exact law.tracks tracks j hj
  · exact lanes j ▸ law.reset

/-! ## Counters and totals (R137, R138) -/

theorem satAdd_le (a b : Nat) : satAdd a b ≤ maxCount := Nat.min_le_right _ _

theorem countOne_le {v : Vector Nat 14} (h : ∀ k : Fin 14, v.get k ≤ maxCount) (n : NoteKind) (k : Fin 14) :
    (countOne v n).get k ≤ maxCount := by
  unfold countOne
  rw [Vector.get_eq_getElem, Vector.getElem_set]
  split
  · exact satAdd_le _ _
  · exact h k

theorem countAll_le {v : Vector Nat 14} (h : ∀ k : Fin 14, v.get k ≤ maxCount) (ns : List NoteKind) (k : Fin 14) :
    (countAll v ns).get k ≤ maxCount := by
  unfold countAll
  induction ns generalizing v with
  | nil => exact h k
  | cons n ns ih => exact ih (countOne_le h n)

theorem Lane.CountersInRange.of {l m : Lane} (h : l.CountersInRange)
    (counters : (∃ ns, m.counters = countAll l.counters ns) ∨ m.counters = Vector.replicate 14 0)
    (seg : m.segTotal = l.segTotal ∨ m.segTotal ≤ maxCount) (frm : m.frmTotal = l.frmTotal ∨ m.frmTotal ≤ maxCount) :
    m.CountersInRange := by
  obtain ⟨hc, hs, hf⟩ := h
  refine ⟨fun k => ?_, seg.elim (fun e => e ▸ hs) id, frm.elim (fun e => e ▸ hf) id⟩
  obtain ⟨ns, e⟩ | e := counters
  · exact e ▸ countAll_le hc ns k
  · simp [e, Vector.get_eq_getElem]

theorem Lane.CountersInRange.sameTrack {l m : Lane} (same : Lane.SameTrack l m) (h : l.CountersInRange) :
    m.CountersInRange :=
  h.of (.inl ⟨[], same.counters⟩) (.inl same.segTotal) (.inl same.frmTotal)

theorem Lane.CountersInRange.trackStep {s t : State} {i : LaneId} (step : TrackStep s t i)
    (h : (s.lane i).CountersInRange) : (t.lane i).CountersInRange := by
  have reset : Lane.reset.CountersInRange := h.of (.inr rfl) (.inr (Nat.zero_le _)) (.inr (Nat.zero_le _))
  have credited (ns : List NoteKind) : ∃ ns', countAll (s.lane i).counters ns = countAll (s.lane i).counters ns' :=
    ⟨ns, rfl⟩
  cases step with
  | same k => exact h.sameTrack k
  | torn _ _ _ k => exact reset.sameTrack k
  | gaveBack k => exact .sameTrack k h
  | opened b kind p _ k =>
    exact .sameTrack k (h.of (.inr rfl) (.inr (Nat.zero_le _)) (.inr (Nat.zero_le _)))
  | closed ns k => exact .sameTrack k (h.of (.inl (credited ns)) (.inl rfl) (.inl rfl))
  | cues c w _ k => exact .sameTrack k (h.of (.inl (credited w.notes)) (.inl rfl) (.inl rfl))
  | clipDropped ns k => exact .sameTrack k (h.of (.inl (credited ns)) (.inl rfl) (.inl rfl))
  | clipInserted b e ns _ k => exact .sameTrack k (h.of (.inl (credited ns)) (.inl rfl) (.inl rfl))
  | segment size diff k => exact .sameTrack k (h.of (.inl (credited _)) (.inr (satAdd_le _ _)) (.inl rfl))
  | block n ns k => exact .sameTrack k (h.of (.inl (credited ns)) (.inl rfl) (.inr (satAdd_le _ _)))

theorem countersLaw : TrackLaw Lane.CountersInRange where
  same := Lane.CountersInRange.sameTrack
  reset := ⟨fun k => by simp [Lane.reset, Vector.get_eq_getElem], Nat.zero_le _, Nat.zero_le _⟩
  step := Lane.CountersInRange.trackStep

/-- Settles O11: the counters are a law of the track. -/
theorem countersKept : Obligations.CountersKept := fun _ _ _ i h e => countersLaw.exec e i h

/-! ## Clip tables (R67, R71, R73) -/

/-- The laws of a table within a quota. -/
def TableFits (table : List ClipEntry) (quota : Nat) : Prop :=
  table.Pairwise (fun e f => e.start ≤ f.start) ∧ table.length ≤ quota ∧ (∀ n, bodiesAt table n ≤ 4)
    ∧ ∀ e ∈ table, e.gain ≤ 32767 ∧ e.duck ≤ 16384

theorem Lane.tableSound_iff (l : Lane) : l.TableSound ↔ TableFits l.table l.par.quota := Iff.rfl

theorem TableFits.nil (quota : Nat) : TableFits [] quota :=
  ⟨.nil, Nat.zero_le _, fun _ => Nat.zero_le _, fun _ h => absurd h List.not_mem_nil⟩

theorem TableFits.sublist {table table' : List ClipEntry} {quota : Nat} (h : TableFits table quota)
    (sub : table'.Sublist table) : TableFits table' quota := by
  obtain ⟨sorted, short, bodies, gains⟩ := h
  exact ⟨sorted.sublist sub, sub.length_le.trans short,
    fun n => ((sub.filter _).length_le).trans (bodies n), fun e he => gains e (sub.mem he)⟩

theorem perm_insertClip (e : ClipEntry) (table : List ClipEntry) : (insertClip e table).Perm (e :: table) := by
  induction table with
  | nil => exact .refl _
  | cons x xs ih =>
    unfold insertClip
    split
    · exact .refl _
    · exact (ih.cons x).trans (.swap e x xs)

theorem pairwise_insertClip {e : ClipEntry} {table : List ClipEntry}
    (h : table.Pairwise (fun x y => x.start ≤ y.start)) :
    (insertClip e table).Pairwise (fun x y => x.start ≤ y.start) := by
  induction table with
  | nil => exact List.pairwise_singleton _ _
  | cons x xs ih =>
    obtain ⟨least, sorted⟩ := List.pairwise_cons.mp h
    unfold insertClip
    split
    next before =>
      refine List.pairwise_cons.mpr ⟨fun y hy => ?_, h⟩
      obtain rfl | hy := List.mem_cons.mp hy
      · exact before.le
      · exact before.le.trans (least y hy)
    next after =>
      refine List.pairwise_cons.mpr ⟨fun y hy => ?_, ih sorted⟩
      obtain rfl | hy := List.mem_cons.mp ((perm_insertClip e xs).mem_iff.mp hy)
      · exact Nat.le_of_not_lt after
      · exact least y hy

/-- R71: a body under fewer than four overlaps leaves no sample under more than four bodies. -/
theorem bodiesAt_insertClip_le {e : ClipEntry} {table : List ClipEntry} (h : ∀ n, bodiesAt table n ≤ 4)
    (room : overlapCount table e.start e.len < 4) (n : Nat) : bodiesAt (insertClip e table) n ≤ 4 := by
  rw [bodiesAt, ((perm_insertClip e table).filter _).length_eq]
  by_cases covers : e.start ≤ n ∧ n < e.start + e.len
  · have overlapping : bodiesAt table n ≤ overlapCount table e.start e.len := by
      refine (List.monotone_filter_right table fun x hx => ?_).length_le
      simp only [Bool.and_eq_true, decide_eq_true_eq, ClipEntry.overlaps] at hx ⊢
      omega
    rw [List.filter_cons_of_pos (by simpa using covers), List.length_cons]
    exact overlapping.trans_lt room
  · rw [List.filter_cons_of_neg (by simpa using covers)]
    exact h n

theorem TableFits.insertClip {table : List ClipEntry} {quota : Nat} {e : ClipEntry} (h : TableFits table quota)
    (room : table.length < quota) (apart : overlapCount table e.start e.len < 4)
    (gains : e.gain ≤ 32767 ∧ e.duck ≤ 16384) : TableFits (insertClip e table) quota := by
  obtain ⟨sorted, -, bodies, clamped⟩ := h
  refine ⟨pairwise_insertClip sorted, ?_, bodiesAt_insertClip_le bodies apart, fun x hx => ?_⟩
  · rw [(perm_insertClip e table).length_eq]
    exact room
  · obtain rfl | hx := List.mem_cons.mp ((perm_insertClip e table).mem_iff.mp hx)
    · exact gains
    · exact clamped x hx

/-- R69: a unit inserts its clip only where the quota and the pool hold it and no crowd stands. -/
theorem clipUnit_inserted {l : Lane} {b : ClipBody} {free : Nat} {e : ClipEntry} {ns : List NoteKind}
    (h : clipUnit l b free = .inserted e ns) :
    l.table.length < l.par.quota ∧ 0 < free ∧ overlapCount l.table e.start e.len < 4
      ∧ e = b.entry (placeClip l.par b.time).1 := by
  unfold clipUnit at h
  dsimp only at h
  split_ifs at h with late crowded grants
  cases h
  simp only [poolGrants, Bool.and_eq_true, decide_eq_true_eq] at grants
  exact ⟨grants.1, grants.2, Nat.lt_of_not_le crowded, rfl⟩

theorem Lane.TableSound.trackStep {s t : State} {i : LaneId} (step : TrackStep s t i) (h : (s.lane i).TableSound) :
    (t.lane i).TableSound := by
  have via {l : Lane} (k : Lane.SameTrack l (t.lane i)) (fits : TableFits l.table l.par.quota) :
      TableFits (t.lane i).table (t.lane i).par.quota := by rwa [k.table, k.par]
  cases step with
  | same k => exact via k h
  | torn _ _ _ k => exact via k (.nil _)
  | gaveBack k => exact via k (.nil _)
  | opened _ _ _ _ k => exact via k (.nil _)
  | closed _ k => exact via k (.nil _)
  | cues _ _ _ k => exact via k h
  | clipDropped _ k => exact via k h
  | clipInserted b e ns unit k =>
    obtain ⟨room, -, apart, entry⟩ := clipUnit_inserted unit
    refine via k (TableFits.insertClip h room apart ?_)
    rw [entry]
    exact ⟨Nat.min_le_right _ _, Nat.min_le_right _ _⟩
  | segment _ _ k => exact via k h
  | block _ _ k => exact via k (TableFits.sublist h List.filter_sublist)

theorem tableLaw : TrackLaw Lane.TableSound where
  same := fun k h => by rwa [Lane.tableSound_iff, k.table, k.par]
  reset := TableFits.nil _
  step := Lane.TableSound.trackStep

/-- Settles O9: the clip table's laws are a law of the track. -/
theorem clipTablesKept : Obligations.ClipTablesKept := fun _ _ _ i h e => tableLaw.exec e i h

end Sys2Proof.Machine
end

section
/-! The stages of the cue pipeline before allocation (R30 to R36): the text cut, the two times, the late clamp and the
extension. -/

namespace Sys2Proof.Machine

open Sys2Proof

/-! ## The text cut (R31) -/

theorem isContinuation_eq_false_iff (b : Byte) : isContinuation b = false ↔ b.toNat < 0x80 ∨ 0xBF < b.toNat := by
  rw [isContinuation, Bool.and_eq_false_iff, decide_eq_false_iff_not, decide_eq_false_iff_not, Nat.not_le, Nat.not_le]

theorem isContinuation_iff (b : Byte) : isContinuation b = true ↔ 0x80 ≤ b.toNat ∧ b.toNat ≤ 0xBF := by
  rw [isContinuation, Bool.and_eq_true, decide_eq_true_iff, decide_eq_true_iff]

theorem cutPoint_le (text : List Byte) (bound : Nat) : cutPoint text bound ≤ bound := by
  induction bound with
  | zero => exact Nat.le_refl 0
  | succ n ih =>
    unfold cutPoint
    split
    · exact ih.trans (Nat.le_succ n)
    · exact Nat.le_refl _

/-- The cut point is the last place up to the bound where a code point starts. -/
theorem cutPoint_eq {text : List Byte} {bound n : Nat} (le : n ≤ bound)
    (starts : n = 0 ∨ isContinuation (byteAt text n) = false)
    (last : ∀ m, n < m → m ≤ bound → isContinuation (byteAt text m) = true) : cutPoint text bound = n := by
  induction bound with
  | zero => exact (Nat.le_zero.mp le).symm
  | succ b ih =>
    unfold cutPoint
    obtain rfl | lt := Nat.eq_or_lt_of_le le
    · rw [if_neg (by simpa using starts)]
    · rw [if_pos (last (b + 1) lt le_rfl)]
      exact ih (Nat.le_of_lt_succ lt) fun m hm hb => last m hm (hb.trans (Nat.le_succ b))

theorem textCut_of_le {c : RawCue} (h : cueTextLen c ≤ 240) : textCut c = (c.text, false) := if_pos h

theorem textCut_of_lt {c : RawCue} (h : 240 < cueTextLen c) :
    textCut c = (c.text.take (cutPoint c.text 240), true) := if_neg (Nat.not_le.mpr h)

theorem textCut_snd (c : RawCue) : (textCut c).2 = decide (240 < cueTextLen c) := by
  unfold textCut
  split <;> simp <;> omega

/-- What is left of a text that was read whole, or as far as 241 bytes. -/
theorem textCut_spec {c : RawCue} (h : c.text.length = min (cueTextLen c) 241 ∨ c.text.length = cueTextLen c) :
    (textCut c).1.length ≤ 240 ∧ (textCut c).1 <+: c.text
      ∧ ((textCut c).1.length < c.text.length ↔ 240 < cueTextLen c) := by
  by_cases short : cueTextLen c ≤ 240
  · rw [textCut_of_le short]
    refine ⟨?_, List.prefix_rfl, ?_⟩ <;> dsimp only <;> omega
  · have cut := cutPoint_le c.text 240
    rw [textCut_of_lt (Nat.lt_of_not_le short)]
    refine ⟨?_, List.take_prefix _ _, ?_⟩ <;> rw [List.length_take] <;> omega

/-- The text that a cue keeps is the one the manual describes. -/
theorem textCut_eq {c : RawCue} {text : List Byte}
    (h : (cueTextLen c ≤ 240 ∧ text = c.text)
      ∨ ∃ n, 240 < cueTextLen c ∧ n ≤ 240 ∧ text = c.text.take n
        ∧ (n = 0 ∨ (byteAt c.text n).toNat < 0x80 ∨ 0xBF < (byteAt c.text n).toNat)
        ∧ ∀ m, n < m → m ≤ 240 → 0x80 ≤ (byteAt c.text m).toNat ∧ (byteAt c.text m).toNat ≤ 0xBF) :
    (textCut c).1 = text := by
  obtain ⟨short, rfl⟩ | ⟨n, long, le, rfl, starts, last⟩ := h
  · rw [textCut_of_le short]
  · simp only [← isContinuation_eq_false_iff, ← isContinuation_iff] at starts last
    rw [textCut_of_lt long, cutPoint_eq le starts last]

/-! ## The two times (R4 to R7, R32) -/

theorem placeTime_eq (p : Params) (t : Nat) :
    placeTime p t = (min ((convertTime p t : Int) + p.offset) maxTime,
      decide ((maxTime : Int) < (convertTime p t : Int) + p.offset)) := by
  obtain inside | beyond := le_or_gt ((convertTime p t : Int) + p.offset) maxTime
  · rw [placeTime_of_le inside, min_eq_left inside, decide_eq_false (Int.not_lt.mpr inside)]
  · rw [placeTime_of_lt beyond, min_eq_right beyond.le, decide_eq_true beyond]

theorem snapTime_le {v : Nat} (g : Nat) (h : v ≤ maxTime) : (snapTime g v).1 ≤ maxTime := by
  obtain rfl | pos := g.eq_zero_or_pos
  · rwa [snapTime_zero h]
  · exact (snapTime_spec pos h).2.1

theorem toNat_min_maxTime_le (x : Int) : (min x maxTime).toNat ≤ maxTime :=
  Int.toNat_le.mpr (min_le_right _ _)

/-! ## The late clamp, the empty check and the extension (R34 to R36) -/

theorem extendCue_empty {p : Params} {start stop : Nat} {text : List Byte} (h : stop ≤ start)
    (req : requiredTicks p (charCount text) = 0) : extendCue p start stop text = (.drop, [.emptyCue]) :=
  if_pos ⟨h, req⟩

/-- A cue that is not empty: long enough, extended, extended to the range's end, or dropped there. -/
theorem extendCue_of_nonempty {p : Params} {start stop : Nat} {text : List Byte}
    (h : start < stop ∨ 0 < requiredTicks p (charCount text)) :
    extendCue p start stop text =
      if start + requiredTicks p (charCount text) ≤ stop then (.pass start stop text, [])
      else if start + requiredTicks p (charCount text) ≤ maxTime then
        (.pass start (start + requiredTicks p (charCount text)) text, [.extended])
      else if start < maxTime then (.pass start maxTime text, [.extended, .range])
      else (.drop, [.range, .emptyCue]) :=
  if_neg (by omega)

theorem extendCue_pass {p : Params} {start stop a b : Nat} {text kept : List Byte} (fits : stop ≤ maxTime)
    (h : (extendCue p start stop text).1 = .pass a b kept) :
    a = start ∧ kept = text ∧ a < b ∧ b ≤ maxTime
      ∧ (a + requiredTicks p (charCount text) ≤ b ∨ b = maxTime) := by
  by_cases empty : stop ≤ start ∧ requiredTicks p (charCount text) = 0
  · rw [extendCue_empty empty.1 empty.2] at h
    cases h
  · rw [extendCue_of_nonempty (by omega)] at h
    split_ifs at h <;> cases h <;> refine ⟨rfl, rfl, ?_⟩ <;> omega

theorem lateClamp_drop {p : Params} {h start stop : Nat} {text : List Byte} (before : start < h) (ends : stop ≤ h) :
    lateClamp p h start stop text = (.drop, [.late]) := by
  rw [lateClamp, if_neg (Nat.not_le.mpr before), if_pos ends]

theorem lateClamp_eq {p : Params} {h start stop : Nat} {text : List Byte} (goesOn : h ≤ start ∨ h < stop) :
    lateClamp p h start stop text =
      ((extendCue p (max start h) stop text).1,
        (if start < h then [NoteKind.late] else []) ++ (extendCue p (max start h) stop text).2) := by
  by_cases inTime : h ≤ start
  · rw [lateClamp, if_pos inTime, max_eq_left inTime, if_neg (Nat.not_lt.mpr inTime)]
    rfl
  · have late : start < h := Nat.lt_of_not_le inTime
    rw [lateClamp, if_neg inTime, if_neg (by omega), max_eq_right late.le, if_pos late]
    rfl

theorem lateClamp_pass {p : Params} {h start stop a b : Nat} {text kept : List Byte} (fits : stop ≤ maxTime)
    (pass : (lateClamp p h start stop text).1 = .pass a b kept) :
    a = max start h ∧ kept = text ∧ a < b ∧ b ≤ maxTime
      ∧ (a + requiredTicks p (charCount text) ≤ b ∨ b = maxTime) := by
  by_cases goesOn : h ≤ start ∨ h < stop
  · rw [lateClamp_eq goesOn] at pass
    exact extendCue_pass fits pass
  · rw [lateClamp_drop (by omega) (by omega)] at pass
    cases pass

/-! ## All stages (R30 to R36) -/

/-- R4, R5: the exact start of a cue in output time. -/
def exactStart (p : Params) (c : RawCue) : Int := (convertTime p (cueSrcStart c) : Int) + p.offset

/-- R4, R5: the exact end of a cue in output time. -/
def exactEnd (p : Params) (c : RawCue) : Int := (convertTime p (cueSrcEnd c) : Int) + p.offset

/-- R5, R6: a time clamped to the range's end and snapped. -/
def onGrid (p : Params) (x : Int) : Nat × Bool := snapTime p.grid (min x maxTime).toNat

theorem onGrid_le (p : Params) (x : Int) : (onGrid p x).1 ≤ maxTime := snapTime_le _ (toNat_min_maxTime_le _)

/-- The notes of stages 2 and 3. -/
def convertNotes (p : Params) (c : RawCue) : List NoteKind :=
  (if 240 < cueTextLen c then [.textCut] else []) ++ (if (maxTime : Int) < exactStart p c then [.range] else [])
    ++ (if (maxTime : Int) < exactEnd p c then [.range] else [])

/-- The notes of stages 2 to 5. -/
def stageNotes (p : Params) (c : RawCue) : List NoteKind :=
  convertNotes p c ++ (if exactStart p c < 0 then [.beforeZero] else [])
    ++ (if (onGrid p (exactStart p c)).2 = true ∧ exactStart p c ≤ maxTime then [.range] else [])
    ++ (if (onGrid p (exactEnd p c)).2 = true ∧ exactEnd p c ≤ maxTime then [.range] else [])

theorem noteIf_decide (b : Prop) [Decidable b] (k : NoteKind) : noteIf (decide b) k = if b then [k] else [] := by
  simp [noteIf]

theorem noteIf_snapped (b : Bool) (x : Int) (k : NoteKind) :
    noteIf (b && !decide ((maxTime : Int) < x)) k = if b = true ∧ x ≤ maxTime then [k] else [] := by
  simp [noteIf]

/-- R34 to R36 for a cue that is in order. -/
def clampCue (p : Params) (h : Nat) (c : RawCue) : Prep × List NoteKind :=
  lateClamp p h (onGrid p (exactStart p c)).1 (onGrid p (exactEnd p c)).1 (textCut c).1

/-- R30 to R36 in the exact times: a cue is filtered, ends before 0, is out of order, or comes to the late clamp. -/
theorem prepareCue_eq (p : Params) (h last : Nat) (c : RawCue) :
    prepareCue p h last c =
      if p.forcedOnly = true ∧ cueForced c = false then (.drop, [.filtered], last)
      else if exactEnd p c ≤ 0 then (.drop, convertNotes p c ++ [.beforeZero], last)
      else if (onGrid p (exactStart p c)).1 < last then (.drop, stageNotes p c ++ [.outOfOrder], last)
      else ((clampCue p h c).1, stageNotes p c ++ (clampCue p h c).2, (onGrid p (exactStart p c)).1) := by
  have ends (x : Int) : min x maxTime ≤ 0 ↔ x ≤ 0 := by unfold maxTime; omega
  have begins (x : Int) : min x maxTime < 0 ↔ x < 0 := by unfold maxTime; omega
  unfold prepareCue
  simp only [placeTime_eq, textCut_snd, noteIf_decide, noteIf_snapped, Bool.and_eq_true, Bool.not_eq_true', ends,
    begins, clampCue, stageNotes, convertNotes, exactStart, exactEnd, onGrid, List.append_assoc]
  rfl

theorem prepareCue_last_le (p : Params) (h last : Nat) (c : RawCue) : last ≤ (prepareCue p h last c).2.2 := by
  rw [prepareCue_eq]
  split_ifs with filtered ends order
  · exact le_rfl
  · exact le_rfl
  · exact le_rfl
  · exact Nat.le_of_not_lt order

/-- A cue that goes on begins at its snapped start or the horizon, and is not empty. -/
theorem prepareCue_pass {p : Params} {h last start stop : Nat} {c : RawCue} {text : List Byte}
    (pass : (prepareCue p h last c).1 = .pass start stop text) :
    start = max (prepareCue p h last c).2.2 h ∧ text = (textCut c).1 ∧ start < stop ∧ stop ≤ maxTime
      ∧ (start + requiredTicks p (charCount text) ≤ stop ∨ stop = maxTime) := by
  rw [prepareCue_eq] at pass ⊢
  split_ifs at pass ⊢ with filtered ends order
  · obtain ⟨rfl, rfl, rest⟩ := lateClamp_pass (onGrid_le _ _) pass
    exact ⟨rfl, rfl, rest⟩

/-- Settles O59: the stages in the exact times, then the late clamp and the extension case by case. -/
theorem cuesPrepared : Obligations.CuesPrepared := by
  intro p h last c length r
  refine ⟨fun forcedOnly plain => ?_, fun text taken cut => ?_, prepareCue_last_le p h last c, fun start stop text pass => ?_⟩
  · simp only [r, prepareCue_eq]
    exact if_pos ⟨forcedOnly, plain⟩
  · intro one s0 e0 s1 e1 converted snapped start clamped req
    have kept : (textCut c).1 = text := textCut_eq cut
    have unfiltered : ¬(p.forcedOnly = true ∧ cueForced c = false) := by
      rintro ⟨forcedOnly, plain⟩
      simp [forcedOnly, plain] at taken
    have stages := (prepareCue_eq p h last c).trans (if_neg unfiltered)
    have startFits : s1.1 ≤ maxTime := onGrid_le _ _
    have stopFits : e1.1 ≤ maxTime := onGrid_le _ _
    refine ⟨fun ends => ?_, fun ends order => ?_, fun ends order => ?_⟩
    · exact stages.trans (if_pos ends)
    · exact stages.trans ((if_neg (Int.not_le.mpr ends)).trans (if_pos order))
    · have stage : clampCue p h c = lateClamp p h s1.1 e1.1 text := by rw [clampCue, kept]; rfl
      have clamp : r = ((lateClamp p h s1.1 e1.1 text).1, snapped ++ (lateClamp p h s1.1 e1.1 text).2, s1.1) := by
        rw [← stage]
        exact stages.trans ((if_neg (Int.not_le.mpr ends)).trans (if_neg (Nat.not_lt.mpr order)))
      refine ⟨fun late => ?_, fun goesOn => ?_⟩
      · rw [clamp, lateClamp_drop (by omega) (by omega)]
      · have extend : r = ((extendCue p start e1.1 text).1, clamped ++ (extendCue p start e1.1 text).2, s1.1) := by
          rw [clamp, lateClamp_eq goesOn, ← List.append_assoc]
        refine ⟨fun empty zero => ?_, fun nonempty => ?_⟩
        · rw [extend, extendCue_empty empty zero]
        · rw [extendCue_of_nonempty nonempty] at extend
          refine ⟨fun long => ?_, fun short fits => ?_, fun short beyond before => ?_, fun short beyond at_end => ?_⟩
          · rw [extend, if_pos long, List.append_nil]
          · rw [extend, if_neg (Nat.not_le.mpr short), if_pos fits]
          · rw [extend, if_neg (Nat.not_le.mpr short), if_neg (Nat.not_le.mpr beyond), if_pos before]
          · rw [extend, if_neg (Nat.not_le.mpr short), if_neg (Nat.not_le.mpr beyond), if_neg at_end.not_lt]
  · obtain ⟨rfl, rfl, lt, fits, long⟩ := prepareCue_pass pass
    obtain ⟨short, isPrefix, shorter⟩ := textCut_spec length
    exact ⟨le_max_right _ _, (prepareCue_last_le p h last c).trans (le_max_left _ _), le_max_left _ _, lt, fits, long,
      short, isPrefix, shorter⟩

end Sys2Proof.Machine
end

section
/-! The cue store (R17 to R23, R37 to R39, R53, R54): the trim of the slot's latest entry, the insertion, the end of a
segment, and the laws of a store that every command keeps. -/

namespace Sys2Proof.Machine

open Sys2Proof

/-! ## The trim (R38) -/

theorem CueEntry.isLatest_iff (e : CueEntry) (slot : BitVec 3) :
    e.isLatest slot = true ↔ e.slot = slot ∧ e.latest = true := by
  rw [CueEntry.isLatest, Bool.and_eq_true, decide_eq_true_iff, and_comm]

/-- No latest entry of the slot ends after the new start: nothing is trimmed. -/
theorem trimPredecessor_of_le {p : Params} {slot : BitVec 3} {start : Nat} {store : List CueEntry}
    (h : ∀ e ∈ store, e.slot = slot → e.latest = true → e.stop ≤ start) :
    trimPredecessor p slot start store = (store, [], 0) := by
  induction store with
  | nil => rfl
  | cons e rest ih =>
    unfold trimPredecessor
    split
    next latest =>
      obtain ⟨same, marked⟩ := (e.isLatest_iff slot).mp latest
      rw [if_pos (h e List.mem_cons_self same marked)]
    next => rw [ih fun x hx => h x (List.mem_cons_of_mem e hx)]

/-- The latest entry of the slot ends after the new start: it is displaced or cut. -/
theorem trimPredecessor_of_lt {p : Params} {slot : BitVec 3} {start : Nat} {xs ys : List CueEntry} {e : CueEntry}
    (before : ∀ x ∈ xs, x.slot = slot → x.latest = false) (same : e.slot = slot) (latest : e.latest = true)
    (ends : start < e.stop) :
    trimPredecessor p slot start (xs ++ e :: ys) =
      if e.start = start then (xs ++ ys, [.trimmed], 1)
      else (xs ++ { e with stop := start } :: ys,
        .trimmed :: (if start - e.start < requiredTicks p e.chars then [.fastRead] else []), 0) := by
  induction xs with
  | nil =>
    rw [List.nil_append, trimPredecessor, if_pos ((e.isLatest_iff slot).mpr ⟨same, latest⟩),
      if_neg (Nat.not_le.mpr ends)]
    simp only [noteIf_decide, List.nil_append]
  | cons x xs ih =>
    have other : ¬x.isLatest slot = true := by
      rw [x.isLatest_iff]
      rintro ⟨hs, hl⟩
      simp [before x List.mem_cons_self hs] at hl
    rw [List.cons_append, trimPredecessor, if_neg other, ih fun y hy => before y (List.mem_cons_of_mem x hy)]
    split <;> rfl

/-- R38: an entry that is displaced gives its place back. -/
theorem length_trimPredecessor (p : Params) (slot : BitVec 3) (start : Nat) (store : List CueEntry) :
    (trimPredecessor p slot start store).1.length + (trimPredecessor p slot start store).2.2 = store.length := by
  induction store with
  | nil => rfl
  | cons e rest ih =>
    unfold trimPredecessor
    split_ifs
    all_goals simp only [List.length_cons, Nat.add_zero]
    omega

@[simp] theorem length_insertCue (store : List CueEntry) (c : RawCue) (start stop : Nat) (text : List Byte) :
    (insertCue store c start stop text).length = store.length + 1 := by
  simp [insertCue]

theorem poolGrants_iff (held quota free : Nat) : poolGrants held quota free = true ↔ held < quota ∧ 0 < free := by
  rw [poolGrants, Bool.and_eq_true, decide_eq_true_iff, decide_eq_true_iff]

/-! ## One cue through the pipeline (R30 to R39) -/

theorem passCue_of_drop {p : Params} {h : Nat} {w : CueWork} {c : RawCue}
    (drop : (prepareCue p h w.lastStart c).1 = .drop) :
    passCue p h w c =
      { w with
        lastStart := (prepareCue p h w.lastStart c).2.2, notes := w.notes ++ (prepareCue p h w.lastStart c).2.1
        consumed := w.consumed + 1, cursor := w.cursor + cueSize c } := by
  simp only [passCue, drop]

theorem passCue_of_refused {p : Params} {h start stop : Nat} {w : CueWork} {c : RawCue} {text : List Byte}
    (pass : (prepareCue p h w.lastStart c).1 = .pass start stop text)
    (full : ¬(w.store.length < p.quota ∧ 0 < w.free)) :
    passCue p h w c = { w with lastStart := (prepareCue p h w.lastStart c).2.2, refused := true } := by
  simp only [passCue, pass, poolGrants_iff, if_neg full]

theorem passCue_of_pass {p : Params} {h start stop : Nat} {w : CueWork} {c : RawCue} {text : List Byte}
    (pass : (prepareCue p h w.lastStart c).1 = .pass start stop text)
    (room : w.store.length < p.quota ∧ 0 < w.free) :
    passCue p h w c =
      { w with
        store := insertCue (trimPredecessor p (cueSlot c) start w.store).1 c start stop text
        lastStart := (prepareCue p h w.lastStart c).2.2
        free := w.free - 1 + (trimPredecessor p (cueSlot c) start w.store).2.2
        notes := w.notes ++ (prepareCue p h w.lastStart c).2.1 ++ (trimPredecessor p (cueSlot c) start w.store).2.1
        consumed := w.consumed + 1, cursor := w.cursor + cueSize c } := by
  simp only [passCue, pass, poolGrants_iff, if_pos room]

/-- A law of the work in hand that every cue keeps is kept by a batch. -/
theorem passBatch_induction {P : CueWork → Prop} {p : Params} {h : Nat} (step : ∀ w c, P w → P (passCue p h w c))
    (batch : List RawCue) (w : CueWork) (hw : P w) : P (passBatch p h w batch) := by
  induction batch generalizing w with
  | nil => exact hw
  | cons c cs ih =>
    rw [passBatch]
    split
    · exact step w c hw
    · exact ih _ (step w c hw)

/-- R17, R19: a cue takes the place it fills from the free ones. -/
theorem passCue_places (p : Params) (h : Nat) (w : CueWork) (c : RawCue) :
    (passCue p h w c).store.length + (passCue p h w c).free = w.store.length + w.free := by
  cases prep : (prepareCue p h w.lastStart c).1 with
  | drop => rw [passCue_of_drop prep]
  | pass start stop text =>
    by_cases room : w.store.length < p.quota ∧ 0 < w.free
    · have trimmed := length_trimPredecessor p (cueSlot c) start w.store
      rw [passCue_of_pass prep room]
      simp only [length_insertCue]
      omega
    · rw [passCue_of_refused prep room]

theorem cueUnit_places (l : Lane) (x : ExecState) (free : Nat) (batch : List RawCue) :
    (cueUnit l x free batch).store.length + (cueUnit l x free batch).free = l.store.length + free :=
  passBatch_induction (P := fun w => w.store.length + w.free = l.store.length + free)
    (fun w c hw => (passCue_places _ _ w c).trans hw) batch _ rfl

/-! ## The laws of a store (R20 to R23, R33, R34) -/

/-- Of two entries of one slot the earlier ends before the later begins and is not the latest reference (R23, R38). -/
def CueEntry.Apart (e f : CueEntry) : Prop := e.slot = f.slot → e.stop ≤ f.start ∧ e.latest = false

/-- The laws of a cue store within a quota, no entry of which starts beyond a bound. -/
structure StoreFits (store : List CueEntry) (bound quota : Nat) : Prop where
  times : ∀ e ∈ store, e.start < e.stop ∧ e.stop ≤ maxTime ∧ e.start ≤ bound
  sorted : store.Pairwise (fun e f => e.start ≤ f.start)
  short : store.length ≤ quota
  apart : store.Pairwise CueEntry.Apart
  latest : ∀ e ∈ store, ∃ f ∈ store, f.slot = e.slot ∧ f.latest = true

theorem Lane.storeFits_iff (l : Lane) :
    l.StoreOrdered ∧ l.SlotsApart ↔ StoreFits l.store (max l.lastStart l.horizon) l.par.quota :=
  ⟨fun ⟨⟨times, sorted, short⟩, apart, latest⟩ => ⟨times, sorted, short, apart, latest⟩,
    fun ⟨times, sorted, short, apart, latest⟩ => ⟨⟨times, sorted, short⟩, apart, latest⟩⟩

theorem StoreFits.nil (bound quota : Nat) : StoreFits [] bound quota :=
  ⟨by simp, .nil, Nat.zero_le _, .nil, by simp⟩

theorem StoreFits.mono {store : List CueEntry} {bound bound' quota : Nat} (h : StoreFits store bound quota)
    (le : bound ≤ bound') : StoreFits store bound' quota :=
  { h with times := fun e he => ⟨(h.times e he).1, (h.times e he).2.1, (h.times e he).2.2.trans le⟩ }

/-- An entry of the latest one's slot ends, if it is another, before that one begins. -/
theorem StoreFits.stop_le_of_latest {store : List CueEntry} {bound quota : Nat} (h : StoreFits store bound quota)
    {e f : CueEntry} (he : e ∈ store) (hf : f ∈ store) (same : e.slot = f.slot) (latest : f.latest = true) :
    e.stop ≤ f.stop := by
  have either : store.Pairwise (fun x y => x.Apart y ∨ y.Apart x) := h.apart.imp .inl
  by_cases eq : e = f
  · rw [eq]
  · have : Std.Symm (fun x y : CueEntry => x.Apart y ∨ y.Apart x) := ⟨fun _ _ => Or.symm⟩
    obtain ordered | ordered := either.forall he hf eq
    · exact (ordered same).1.trans (h.times f hf).1.le
    · simp [(ordered same.symm).2] at latest

/-! ## Insertion (R39) -/

/-- What insertion needs of a trimmed store: it is in order before the new start, without the slot's latest reference in
its other slots, and no entry of the slot passes the new start. -/
structure ReadyFor (store : List CueEntry) (slot : BitVec 3) (start : Nat) : Prop where
  times : ∀ e ∈ store, e.start < e.stop ∧ e.stop ≤ maxTime ∧ e.start ≤ start
  sorted : store.Pairwise (fun e f => e.start ≤ f.start)
  apart : store.Pairwise CueEntry.Apart
  latest : ∀ e ∈ store, e.slot ≠ slot → ∃ f ∈ store, f.slot = e.slot ∧ f.latest = true
  clear : ∀ e ∈ store, e.slot = slot → e.stop ≤ start

/-- The slot's latest entry, cut to end at the new start, takes its place again. -/
theorem ReadyFor.cut {xs ys : List CueEntry} {e : CueEntry} {slot : BitVec 3} {start : Nat}
    (h : ReadyFor (xs ++ ys) slot start) (same : e.slot = slot) (times : e.start < start ∧ start ≤ maxTime)
    (stop : e.stop = start) (sorted : (xs ++ e :: ys).Pairwise (fun x y => x.start ≤ y.start))
    (before : ∀ x ∈ xs, CueEntry.Apart x e) (after : ∀ y ∈ ys, y.slot ≠ slot) :
    ReadyFor (xs ++ e :: ys) slot start := by
  have sub : (xs ++ ys).Sublist (xs ++ e :: ys) := (List.Sublist.refl xs).append (List.sublist_cons_self e ys)
  have cases {f : CueEntry} (hf : f ∈ xs ++ e :: ys) : f = e ∨ f ∈ xs ++ ys := by
    simpa [or_left_comm] using hf
  obtain ⟨apartXs, apartYs, apartXY⟩ := List.pairwise_append.mp h.apart
  refine ⟨fun f hf => ?_, sorted, ?_, fun f hf other => ?_, fun f hf sf => ?_⟩
  · obtain rfl | hf := cases hf
    · exact ⟨stop ▸ times.1, stop ▸ times.2, times.1.le⟩
    · exact h.times f hf
  · refine List.pairwise_append.mpr ⟨apartXs, List.pairwise_cons.mpr ⟨fun y hy sy => ?_, apartYs⟩, fun x hx y hy => ?_⟩
    · exact absurd (sy.symm.trans same) (after y hy)
    · obtain rfl | hy := List.mem_cons.mp hy
      · exact before x hx
      · exact apartXY x hx y hy
  · obtain rfl | hf := cases hf
    · exact absurd same other
    · obtain ⟨g, hg, rest⟩ := h.latest f hf other
      exact ⟨g, sub.mem hg, rest⟩
  · obtain rfl | hf := cases hf
    · exact stop.le
    · exact h.clear f hf sf

theorem StoreFits.readyFor_trim {store : List CueEntry} {bound quota start : Nat} (h : StoreFits store bound quota)
    (p : Params) (slot : BitVec 3) (le : bound ≤ start) :
    ReadyFor (trimPredecessor p slot start store).1 slot start := by
  have times : ∀ e ∈ store, e.start < e.stop ∧ e.stop ≤ maxTime ∧ e.start ≤ start := (h.mono le).times
  by_cases passed : ∀ e ∈ store, e.slot = slot → e.latest = true → e.stop ≤ start
  · rw [trimPredecessor_of_le passed]
    refine ⟨times, h.sorted, h.apart, fun e he _ => h.latest e he, fun e he same => ?_⟩
    obtain ⟨f, hf, sameSlot, latest⟩ := h.latest e he
    exact (h.stop_le_of_latest he hf sameSlot.symm latest).trans (passed f hf (sameSlot.trans same) latest)
  · push Not at passed
    obtain ⟨e, he, same, latest, ends⟩ := passed
    obtain ⟨xs, ys, rfl⟩ := List.append_of_mem he
    obtain ⟨apartXs, apartYs, apartXY⟩ := List.pairwise_append.mp h.apart
    obtain ⟨apartE, apartYs⟩ := List.pairwise_cons.mp apartYs
    have before : ∀ x ∈ xs, x.slot = slot → x.stop ≤ e.start ∧ x.latest = false := fun x hx sx =>
      apartXY x hx e List.mem_cons_self (sx.trans same.symm)
    have after : ∀ y ∈ ys, y.slot ≠ slot := fun y hy sy => by
      simp [(apartE y hy (same.trans sy.symm)).2] at latest
    have others : ∀ f ∈ xs ++ e :: ys, f.slot ≠ slot → f ∈ xs ++ ys := fun f hf other => by
      obtain hx | hy := List.mem_append.mp hf
      · exact List.mem_append_left _ hx
      · obtain rfl | hy := List.mem_cons.mp hy
        · exact absurd same other
        · exact List.mem_append_right _ hy
    have rest : ReadyFor (xs ++ ys) slot start := by
      have sub : (xs ++ ys).Sublist (xs ++ e :: ys) := (List.Sublist.refl xs).append (List.sublist_cons_self e ys)
      refine ⟨fun f hf => times f (sub.mem hf), h.sorted.sublist sub, h.apart.sublist sub, fun f hf other => ?_,
        fun f hf sf => ?_⟩
      · obtain ⟨g, hg, sg, lg⟩ := h.latest f (sub.mem hf)
        exact ⟨g, others g hg (sg ▸ other), sg, lg⟩
      · obtain hx | hy := List.mem_append.mp hf
        · exact (before f hx sf).1.trans (times e he).2.2
        · exact absurd sf (after f hy)
    rw [trimPredecessor_of_lt (fun x hx sx => (before x hx sx).2) same latest ends]
    by_cases equal : e.start = start
    · rw [if_pos equal]
      exact rest
    · rw [if_neg equal]
      have cut : start ≤ maxTime := ends.le.trans (times e he).2.1
      have earlier : e.start < start := lt_of_le_of_ne (times e he).2.2 equal
      exact rest.cut (e := { e with stop := start }) same ⟨earlier, cut⟩ rfl
        (by simpa [List.pairwise_append] using h.sorted)
        (fun x hx sx => before x hx (sx.trans same)) after

/-- R39: an entry that gives up its slot's latest reference to an arrival of the slot. -/
def CueEntry.unmark (slot : BitVec 3) (e : CueEntry) : CueEntry := if e.slot = slot then { e with latest := false } else e

@[simp] theorem CueEntry.unmark_start (slot : BitVec 3) (e : CueEntry) : (e.unmark slot).start = e.start := by
  unfold CueEntry.unmark; split <;> rfl
@[simp] theorem CueEntry.unmark_stop (slot : BitVec 3) (e : CueEntry) : (e.unmark slot).stop = e.stop := by
  unfold CueEntry.unmark; split <;> rfl
@[simp] theorem CueEntry.unmark_slot (slot : BitVec 3) (e : CueEntry) : (e.unmark slot).slot = e.slot := by
  unfold CueEntry.unmark; split <;> rfl

theorem CueEntry.unmark_of_ne {slot : BitVec 3} {e : CueEntry} (h : e.slot ≠ slot) : e.unmark slot = e := if_neg h

theorem CueEntry.unmark_latest_of_eq {slot : BitVec 3} {e : CueEntry} (h : e.slot = slot) :
    (e.unmark slot).latest = false := by rw [CueEntry.unmark, if_pos h]

theorem CueEntry.unmark_latest_of_false {slot : BitVec 3} {e : CueEntry} (h : e.latest = false) :
    (e.unmark slot).latest = false := by
  unfold CueEntry.unmark; split <;> simp [h]

/-- R39: the entry that a cue inserts. -/
def arrival (c : RawCue) (start stop : Nat) (text : List Byte) : CueEntry :=
  { start := start, stop := stop, slot := cueSlot c, style := cueStyle c, forced := cueForced c, text := text
    chars := charCount text, continued := false, latest := true }

theorem insertCue_eq (store : List CueEntry) (c : RawCue) (start stop : Nat) (text : List Byte) :
    insertCue store c start stop text = store.map (CueEntry.unmark (cueSlot c)) ++ [arrival c start stop text] := rfl

/-- R39: the arrival takes the slot's latest reference at the tail of a store that is ready for it. -/
theorem ReadyFor.insertCue {store : List CueEntry} {start stop quota : Nat} {c : RawCue} {text : List Byte}
    (h : ReadyFor store (cueSlot c) start) (room : store.length < quota) (lt : start < stop) (fits : stop ≤ maxTime) :
    StoreFits (insertCue store c start stop text) start quota := by
  rw [insertCue_eq]
  have cases {P : CueEntry → Prop} (old : ∀ e ∈ store, P (e.unmark (cueSlot c))) (new : P (arrival c start stop text)) :
      ∀ f ∈ store.map (CueEntry.unmark (cueSlot c)) ++ [arrival c start stop text], P f := fun f hf => by
    rw [List.mem_append, List.mem_map, List.mem_singleton] at hf
    obtain ⟨e, he, rfl⟩ | rfl := hf
    · exact old e he
    · exact new
  refine ⟨cases (fun e he => by simpa using h.times e he) ⟨lt, fits, le_rfl⟩, ?_, ?_, ?_,
    cases (fun e he => ?_) ⟨_, List.mem_append_right _ (List.mem_singleton_self _), rfl, rfl⟩⟩
  · refine List.pairwise_append.mpr ⟨?_, List.pairwise_singleton _ _, fun x hx y hy => ?_⟩
    · simpa [List.pairwise_map] using h.sorted
    · obtain ⟨e, he, rfl⟩ := List.mem_map.mp hx
      obtain rfl := List.mem_singleton.mp hy
      simpa [arrival] using (h.times e he).2.2
  · simpa using room
  · refine List.pairwise_append.mpr ⟨?_, List.pairwise_singleton _ _, fun x hx y hy same => ?_⟩
    · refine List.pairwise_map.mpr (h.apart.imp fun {e f} apart same => ?_)
      obtain ⟨stop, latest⟩ := apart (by simpa using same)
      exact ⟨by simpa using stop, CueEntry.unmark_latest_of_false latest⟩
    · obtain ⟨e, he, rfl⟩ := List.mem_map.mp hx
      obtain rfl := List.mem_singleton.mp hy
      rw [CueEntry.unmark_slot] at same
      exact ⟨by simpa [arrival] using h.clear e he same, CueEntry.unmark_latest_of_eq same⟩
  · by_cases same : e.slot = cueSlot c
    · exact ⟨_, List.mem_append_right _ (List.mem_singleton_self _), by simpa [arrival] using same.symm, rfl⟩
    · obtain ⟨f, hf, slot, latest⟩ := h.latest e he same
      refine ⟨f, List.mem_append_left _ (List.mem_map.mpr ⟨f, hf, CueEntry.unmark_of_ne (slot ▸ same)⟩), ?_, latest⟩
      simpa using slot

/-- R30 to R39: a cue keeps the laws of the store it passes to. -/
theorem StoreFits.passCue {p : Params} {h : Nat} {w : CueWork} (c : RawCue)
    (fits : StoreFits w.store (max w.lastStart h) p.quota) :
    StoreFits (passCue p h w c).store (max (passCue p h w c).lastStart h) p.quota := by
  have later : max w.lastStart h ≤ max (prepareCue p h w.lastStart c).2.2 h :=
    max_le_max_right h (prepareCue_last_le p h w.lastStart c)
  cases prep : (prepareCue p h w.lastStart c).1 with
  | drop =>
    rw [passCue_of_drop prep]
    exact fits.mono later
  | pass start stop text =>
    by_cases room : w.store.length < p.quota ∧ 0 < w.free
    · obtain ⟨begins, -, lt, ends, -⟩ := prepareCue_pass prep
      have trimmed := length_trimPredecessor p (cueSlot c) start w.store
      rw [passCue_of_pass prep room]
      dsimp only
      rw [← begins]
      exact (fits.readyFor_trim p (cueSlot c) (begins ▸ later)).insertCue (by omega) lt ends
    · rw [passCue_of_refused prep room]
      exact fits.mono later

/-! ## The end of a segment (R53, R54) -/

theorem length_markPieces (b0 b1 n : Nat) (store : List CueEntry) :
    (markPieces b0 b1 n store).length = store.length := by
  induction store generalizing n with
  | nil => cases n <;> rfl
  | cons e es ih =>
    cases n with
    | zero => rfl
    | succ n =>
      unfold markPieces
      split <;> simp [ih]

/-- The continued flag apart, the pieces' entries stay as they are. -/
theorem map_markPieces {α : Type} (f : CueEntry → α) (hf : ∀ e, f { e with continued := true } = f e) (b0 b1 n : Nat)
    (store : List CueEntry) : (markPieces b0 b1 n store).map f = store.map f := by
  induction store generalizing n with
  | nil => cases n <;> rfl
  | cons e es ih =>
    cases n with
    | zero => rfl
    | succ n =>
      unfold markPieces
      split <;> simp [ih, hf]

/-- An entry with its continued flag cleared: all that the laws of a store look at. -/
def CueEntry.plain (e : CueEntry) : CueEntry := { e with continued := false }

theorem storeFits_map_plain {store : List CueEntry} {bound quota : Nat} :
    StoreFits (store.map CueEntry.plain) bound quota ↔ StoreFits store bound quota := by
  have apart (e f : CueEntry) : e.plain.Apart f.plain ↔ e.Apart f := Iff.rfl
  constructor
  · rintro ⟨times, sorted, short, isApart, latest⟩
    exact ⟨fun e he => times e.plain (List.mem_map_of_mem he), (List.pairwise_map (f := CueEntry.plain)).mp sorted,
      by simpa using short, (List.pairwise_map (f := CueEntry.plain)).mp isApart, fun e he => by
        simpa [CueEntry.plain] using latest e.plain (List.mem_map_of_mem he)⟩
  · rintro ⟨times, sorted, short, isApart, latest⟩
    refine ⟨?_, List.pairwise_map.mpr sorted, by simpa using short, List.pairwise_map.mpr isApart, ?_⟩
    · simpa [CueEntry.plain] using times
    · simpa [CueEntry.plain] using latest

theorem StoreFits.markPieces {store : List CueEntry} {bound quota : Nat} (h : StoreFits store bound quota)
    (b0 b1 n : Nat) : StoreFits (markPieces b0 b1 n store) bound quota := by
  rw [← storeFits_map_plain, map_markPieces CueEntry.plain (fun _ => rfl), storeFits_map_plain]
  exact h

/-- R54: with an entry its slot's latest one stays too. -/
theorem StoreFits.keepAfter {store : List CueEntry} {bound quota : Nat} (h : StoreFits store bound quota) (b1 : Nat) :
    StoreFits (keepAfter b1 store) bound quota := by
  have sub : (Machine.keepAfter b1 store).Sublist store := List.filter_sublist
  refine ⟨fun e he => h.times e (sub.mem he), h.sorted.sublist sub, sub.length_le.trans h.short, h.apart.sublist sub,
    fun e he => ?_⟩
  obtain ⟨mem, stays⟩ := List.mem_filter.mp he
  obtain ⟨f, hf, same, latest⟩ := h.latest e mem
  have longer := h.stop_le_of_latest mem hf same.symm latest
  exact ⟨f, List.mem_filter.mpr ⟨hf, by simp only [decide_eq_true_eq] at stays ⊢; omega⟩, same, latest⟩

/-! ## Every command -/

theorem StoreFits.trackStep {s t : State} {i : LaneId} (step : TrackStep s t i)
    (h : StoreFits (s.lane i).store (max (s.lane i).lastStart (s.lane i).horizon) (s.lane i).par.quota) :
    StoreFits (t.lane i).store (max (t.lane i).lastStart (t.lane i).horizon) (t.lane i).par.quota := by
  have via {l : Lane} (k : Lane.SameTrack l (t.lane i))
      (fits : StoreFits l.store (max l.lastStart l.horizon) l.par.quota) :
      StoreFits (t.lane i).store (max (t.lane i).lastStart (t.lane i).horizon) (t.lane i).par.quota := by
    rwa [Lane.horizon, k.store, k.par, k.lastStart, k.nextSeg]
  cases step with
  | same k => exact via k h
  | torn _ _ _ k => exact via k (.nil _ _)
  | gaveBack k => exact via k (.nil _ _)
  | opened _ _ _ _ k => exact via k (.nil _ _)
  | closed _ k => exact via k (.nil _ _)
  | cues c w unit k =>
    refine via k ?_
    rw [unit]
    exact passBatch_induction (P := fun w => StoreFits w.store (max w.lastStart (s.lane i).horizon) (s.lane i).par.quota)
      (fun _ c => StoreFits.passCue c) _ _ h
  | clipDropped _ k => exact via k h
  | clipInserted _ _ _ _ k => exact via k h
  | segment _ _ k =>
    refine via k (((h.markPieces _ _ _).keepAfter _).mono (max_le_max_left _ ?_))
    exact Nat.mul_le_mul_right _ (Nat.le_succ _)
  | block _ _ k => exact via k h

theorem storeLaw :
    TrackLaw fun l => StoreFits l.store (max l.lastStart l.horizon) l.par.quota where
  same := fun k h => by rwa [Lane.horizon, k.store, k.par, k.lastStart, k.nextSeg]
  reset := StoreFits.nil _ _
  step := StoreFits.trackStep

/-- Settles O8: the cue store's laws are a law of the track. -/
theorem cueStoresKept : Obligations.CueStoresKept := by
  intro c s t i ordered apart e
  exact (t.lane i).storeFits_iff.mpr (storeLaw.exec e i ((s.lane i).storeFits_iff.mp ⟨ordered, apart⟩))

end Sys2Proof.Machine
end

section
/-! What an operation on one lane leaves as it was, and what it may do to the lane's own items: note bits (R136), the
programme queue (R81, R83, R84), and what it may put in flight under HOLD (R169). -/

namespace Sys2Proof.Machine

open Sys2Proof

/-! ## The lane's own items -/

/-- Note bits 14 and 15 are clear in a record and in what it owes. -/
def Record.NotesFit (c : Record) : Prop := NotesInRange c.ex.notes ∧ ∀ o ∈ c.owed, NotesInRange o.res.notes

/-- What one operation may do to a queue: its laws are kept, and under HOLD no live read appears. -/
structure Prefetch.Moves (hold : Bool) (p p' : Prefetch) : Prop where
  sound : p.Sound → p'.Sound
  block : hold = true → ∀ off k, p'.outstanding = .live off k → p.outstanding = .live off k

/-- What one operation may do to a lane: note bits and queue keep their laws, and under HOLD no read, sequence, poll or
block read appears that was not in flight. -/
structure Lane.Moves (hold : Bool) (l m : Lane) : Prop where
  notes : l.NoteBitsInRange → m.NoteBitsInRange
  pf : Prefetch.Moves hold l.pf m.pf
  read : hold = true → ∀ r, m.io = .read r true → l.io = .read r true
  seq : hold = true → ∀ q, m.io = .seq q → q.begun = true → ∃ q', l.io = .seq q' ∧ q'.begun = true
  poll : hold = true → m.gate.poll = .outstanding → l.gate.poll = .outstanding

theorem Prefetch.Moves.refl (hold : Bool) (p : Prefetch) : Prefetch.Moves hold p p := ⟨id, fun _ _ _ => id⟩

theorem Lane.Moves.refl (hold : Bool) (l : Lane) : Lane.Moves hold l l :=
  ⟨id, .refl _ _, fun _ _ => id, fun _ q io begun => ⟨q, io, begun⟩, fun _ => id⟩

theorem Prefetch.Moves.trans {hold : Bool} {p q r : Prefetch} (h : Prefetch.Moves hold p q)
    (k : Prefetch.Moves hold q r) : Prefetch.Moves hold p r :=
  ⟨fun x => k.sound (h.sound x), fun on off n live => h.block on off n (k.block on off n live)⟩

theorem Lane.Moves.trans {hold : Bool} {l m n : Lane} (h : Lane.Moves hold l m) (k : Lane.Moves hold m n) :
    Lane.Moves hold l n :=
  ⟨fun x => k.notes (h.notes x), h.pf.trans k.pf, fun on r io => h.read on r (k.read on r io),
    fun on q io begun => by
      obtain ⟨q', io', begun'⟩ := k.seq on q io begun
      exact h.seq on q' io' begun',
    fun on poll => h.poll on (k.poll on poll)⟩

/-! ## The programme queue (R81 to R86) -/

theorem BlockRead.makeStale_ne_live (r : BlockRead) (off k : Nat) : r.makeStale ≠ .live off k := by
  cases r <;> simp [BlockRead.makeStale]

theorem Prefetch.Moves.of_not_live {hold : Bool} {p p' : Prefetch} (sound : p.Sound → p'.Sound)
    (h : ∀ off k, p'.outstanding ≠ .live off k) : Prefetch.Moves hold p p' :=
  ⟨sound, fun _ off k live => absurd live (h off k)⟩

theorem Prefetch.Moves.discard (hold : Bool) (p : Prefetch) : Prefetch.Moves hold p p.discard :=
  .of_not_live (fun _ => ⟨Nat.zero_le _, fun _ => Nat.zero_le _, fun _ _ _ => rfl⟩)
    fun off k => BlockRead.makeStale_ne_live _ off k

/-- An outstanding read ends or becomes stale. -/
theorem Prefetch.Moves.endRead (hold : Bool) (p : Prefetch) {r : BlockRead} (h : ∀ off k, r ≠ .live off k) :
    Prefetch.Moves hold p { p with outstanding := r } :=
  .of_not_live (fun ⟨short, room, _⟩ => ⟨short, room, fun off k live => absurd live (h off k)⟩) h

/-- R83: a block joins at the end of a live read, with which the pause flag was clear. -/
theorem Prefetch.Moves.join (hold : Bool) {p : Prefetch} {off k : Nat} (live : p.outstanding = .live off k)
    (b : QBlock) : Prefetch.Moves hold p (p.join b) := by
  refine .of_not_live (fun ⟨_, room, running⟩ => ?_) fun _ _ => by simp [Prefetch.join]
  have unpaused := running off k live
  have two := room unpaused
  refine ⟨by simp [Prefetch.join]; omega, fun flag => ?_, fun _ _ none => by simp [Prefetch.join] at none⟩
  simp [Prefetch.join, Config.queueMax] at flag ⊢
  omega

/-- R84: the head leaves, and the pause flag with it where one block or none is left. -/
theorem Prefetch.Moves.popHead (hold : Bool) (p : Prefetch) : Prefetch.Moves hold p p.popHead := by
  refine ⟨fun ⟨short, room, running⟩ => ⟨?_, fun flag => ?_, fun off k live => ?_⟩, fun _ _ _ => id⟩
  · simp [Prefetch.popHead]
    omega
  · simp only [Prefetch.popHead, Bool.and_eq_false_iff, decide_eq_false_iff_not, List.length_tail] at flag ⊢
    obtain unpaused | few := flag
    · have := room unpaused
      omega
    · omega
  · simp [Prefetch.popHead, running off k live]

/-- R82: the next read is issued with the pause flag clear and without HOLD. -/
theorem Prefetch.Moves.issue (hold : Bool) {p : Prefetch} (f : Nat) (unpaused : p.paused = false)
    (run : hold = false) : Prefetch.Moves hold p (p.issue f) :=
  ⟨fun ⟨short, room, _⟩ => ⟨short, room, fun _ _ _ => unpaused⟩, fun on => by simp [run] at on⟩

/-! ## Lane updates -/

/-- What an operation may make of the lane's transfer. -/
inductive LaneIO.MovesTo (hold : Bool) (l : Lane) : LaneIO → Prop where
  | kept : MovesTo hold l l.io
  | idle : MovesTo hold l .idle
  | read (r : LaneRead) : MovesTo hold l (.read r (!hold))
  | seq (q : WriteSeq) (begun : hold = true → q.begun = true → ∃ q', l.io = .seq q' ∧ q'.begun = true)
      (notes : l.NoteBitsInRange → ∀ r ∈ q.kind.result, NotesInRange r.notes) : MovesTo hold l (.seq q)

/-- An update of a lane, from what it makes of the record, the transfer, the poll and the queue. -/
theorem Lane.Moves.of {hold : Bool} {l m : Lane} (cur : l.NoteBitsInRange → ∀ c ∈ m.cur, c.NotesFit)
    (io : LaneIO.MovesTo hold l m.io) (pf : Prefetch.Moves hold l.pf m.pf)
    (poll : hold = true → m.gate.poll = .outstanding → l.gate.poll = .outstanding) : Lane.Moves hold l m := by
  generalize e : m.io = x at io
  cases io with
  | kept =>
    exact ⟨fun h => ⟨cur h, by rw [e]; exact h.2⟩, pf, fun _ r io => e ▸ io,
      fun _ q io begun => ⟨q, e ▸ io, begun⟩, poll⟩
  | idle =>
    exact ⟨fun h => ⟨cur h, by simp [e, LaneIO.seq?]⟩, pf, fun _ r io => by simp [e] at io,
      fun _ q io => by simp [e] at io, poll⟩
  | read r =>
    exact ⟨fun h => ⟨cur h, by simp [e, LaneIO.seq?]⟩, pf, fun on r' io => by simp [e, on] at io,
      fun _ q io => by simp [e] at io, poll⟩
  | seq q begun notes =>
    refine ⟨fun h => ⟨cur h, ?_⟩, pf, fun _ r io => by simp [e] at io, fun on q' io begun' => ?_, poll⟩
    · simpa [e, LaneIO.seq?] using notes h
    · obtain rfl : q = q' := by simpa [e] using io
      exact begun on begun'

theorem Lane.NoteBitsInRange.record {l : Lane} (h : l.NoteBitsInRange) : ∀ c ∈ l.cur, c.NotesFit := h.1

theorem Lane.NoteBitsInRange.result {l : Lane} (h : l.NoteBitsInRange) {q : WriteSeq} (io : l.io = .seq q)
    {r : RecResult} (res : q.kind.result = some r) : NotesInRange r.notes :=
  h.2 q (by simp [io, LaneIO.seq?]) r (by simp [res])

/-- An update that leaves record, transfer, poll and queue as they are. -/
theorem Lane.Moves.same {hold : Bool} {l m : Lane} (cur : m.cur = l.cur) (io : m.io = l.io)
    (gate : m.gate.poll = l.gate.poll) (pf : m.pf = l.pf) : Lane.Moves hold l m :=
  .of (fun h => by rw [cur]; exact h.record) (by rw [io]; exact .kept) (by rw [pf]; exact .refl _ _)
    (fun _ => gate ▸ id)

/-- The end of work on a record. -/
theorem Lane.Moves.workEnded (hold : Bool) (l : Lane) : Lane.Moves hold l l.workEnded := by
  rw [← Lane.stopWork_eq]
  exact .of Lane.NoteBitsInRange.record .kept (.discard hold l.pf) fun _ poll => by simp [Gate.clear] at poll

/-- A new record, or none, in place of the current one. -/
theorem Lane.Moves.setCur (hold : Bool) (l : Lane) {c : Option Record}
    (h : l.NoteBitsInRange → ∀ c' ∈ c, c'.NotesFit) : Lane.Moves hold l { l with cur := c } :=
  .of h .kept (.refl _ _) fun _ => id

/-- The lane is to make a read. -/
theorem Lane.Moves.toRead (hold : Bool) (l : Lane) (st : LaneState) (r : LaneRead) :
    Lane.Moves hold l { l with state := st, io := .read r (!hold) } :=
  .of Lane.NoteBitsInRange.record (.read r) (.refl _ _) fun _ => id

/-- A state without a transfer of the lane's own. -/
theorem Lane.Moves.toIdle (hold : Bool) (l : Lane) (st : LaneState) : Lane.Moves hold l { l with state := st, io := .idle } :=
  .of Lane.NoteBitsInRange.record .idle (.refl _ _) fun _ => id

/-- A write sequence starts, unbegun under HOLD or continuing one begun. -/
theorem Lane.Moves.toSeq {hold : Bool} {l : Lane} (st : LaneState) {q : WriteSeq}
    (begun : hold = true → q.begun = true → ∃ q', l.io = .seq q' ∧ q'.begun = true)
    (notes : l.NoteBitsInRange → ∀ r ∈ q.kind.result, NotesInRange r.notes) :
    Lane.Moves hold l { l with state := st, io := .seq q } :=
  .of Lane.NoteBitsInRange.record (.seq q begun notes) (.refl _ _) fun _ => id

theorem Lane.Moves.gate (hold : Bool) (l : Lane) {g : Gate}
    (h : hold = true → g.poll = .outstanding → l.gate.poll = .outstanding) :
    Lane.Moves hold l { l with gate := g } :=
  .of Lane.NoteBitsInRange.record .kept (.refl _ _) h

theorem Lane.Moves.prefetch {hold : Bool} (l : Lane) {p : Prefetch} (h : Prefetch.Moves hold l.pf p) :
    Lane.Moves hold l { l with pf := p } :=
  .of Lane.NoteBitsInRange.record .kept h fun _ => id

theorem notesInRange_zero : NotesInRange 0 := ⟨rfl, rfl⟩

theorem NotesInRange.markAll {b : BitVec 16} (h : NotesInRange b) (ns : List NoteKind) : NotesInRange (markAll b ns) := by
  unfold Machine.markAll
  induction ns generalizing b with
  | nil => exact h
  | cons k ns ih =>
    have bit : ∀ k : NoteKind, k.bit.getLsbD 14 = false ∧ k.bit.getLsbD 15 = false := by
      intro k
      cases k <;> decide
    refine ih ⟨?_, ?_⟩ <;> rw [BitVec.getLsbD_or]
    · simp only [h.1, (bit k).1, Bool.or_self]
    · simp only [h.2, (bit k).2, Bool.or_self]

/-- The execution state changes, its note bits not. -/
theorem Lane.Moves.withEx (hold : Bool) (l : Lane) {f : ExecState → ExecState}
    (h : ∀ x, NotesInRange x.notes → NotesInRange (f x).notes) : Lane.Moves hold l (l.withEx f) := by
  refine .setCur hold l fun fits c' hc' => ?_
  obtain ⟨c, hc, rfl⟩ := Option.map_eq_some_iff.mp hc'
  obtain ⟨notes, owed⟩ := fits.record c hc
  exact ⟨h c.ex notes, owed⟩

theorem Lane.Moves.credit (hold : Bool) (l : Lane) (ns : List NoteKind) : Lane.Moves hold l (l.credit ns) := by
  have record : Lane.Moves hold l (l.withEx fun x => x.mark ns) := .withEx hold l fun x h => h.markAll ns
  exact record.trans (.same rfl rfl rfl rfl)

theorem Lane.Moves.retiring {s : State} {i : LaneId} {l : Lane} {c : Record} (o : RecOutcome) (why : Reason)
    (cur : l.cur = some c) : Lane.Moves s.hold l (Lane.retiring s i l c o why) := by
  refine (Lane.Moves.workEnded s.hold l).trans (.of (fun h => ?_) (.seq _ ?_ fun h r hr => ?_) (.refl _ _) fun _ => id)
  · exact fun c' hc' => h.record c' (cur.trans hc')
  · intro on begun
    simp [on] at begun
  · obtain rfl := Option.some.inj hr
    exact (h.record c cur).1

theorem Lane.Moves.eventEnded (hold : Bool) (l : Lane) (q : WriteSeq) (kept : Bool) :
    Lane.Moves hold l (l.eventEnded q kept hold) := by
  have goesOn : Lane.Moves hold l
      (if kept then { l with state := .noticeWait, waitAct := .fetch, io := .idle }
       else { l with state := .fetching, io := .read (.header false) (!hold) }) := by
    cases kept
    · exact .toRead _ _ _ _
    · exact (Lane.Moves.toIdle hold l .noticeWait).trans (.same rfl rfl rfl rfl)
  unfold Lane.eventEnded
  dsimp only
  split
  · exact .toIdle hold l _
  · cases q.kind with
    | retire r => exact iteInduction (fun _ => .toIdle hold l .halted) fun _ => goesOn
    | linkPass => exact goesOn
    | stop => exact iteInduction (fun _ => .toIdle hold l l.state) fun _ => goesOn
    | entryHalt => exact .toIdle hold l _
    | rehalt => exact .toIdle hold l _
    | teardown => exact .refl _ _

theorem Lane.Moves.noticeHanded (hold : Bool) (l : Lane) (q : WriteSeq) (n : Notice) (pend : Bool) :
    Lane.Moves hold l (l.noticeHanded q n pend hold) := by
  unfold Lane.noticeHanded
  repeat' split
  · exact .refl _ _
  · exact .same rfl rfl rfl rfl
  · exact (Lane.Moves.eventEnded hold l q true).trans (.same rfl rfl rfl rfl)
  · exact .same rfl rfl rfl rfl

theorem Lane.Moves.tornDown (hold : Bool) (l : Lane) (failed : Bool) : Lane.Moves hold l (l.tornDown failed) :=
  .of (fun _ => by simp [Lane.tornDown, Lane.reset]) .idle (.discard hold l.pf) fun _ poll => by
    simp [Lane.tornDown, Gate.clear] at poll

end Sys2Proof.Machine
end

section
/-! The shared operations as moves: each changes the lanes it is for within `Lane.Moves`, takes no engine under HOLD, and
leaves the registers and configuration space alone (R167, R169). -/

namespace Sys2Proof.Machine

open Sys2Proof

/-! ## Moves of the whole state -/

/-- A write that the link did not take whole. -/
def LinkWrite.Torn (w : LinkWrite) : Prop := ∃ a b, w = .torn a b

/-- What is put on the link from s to t; without bus mastering, refused writes only (R167). -/
def State.Puts (s t : State) : Prop :=
  ∃ ws, t.wire = s.wire ++ ws ∧ (s.bus.busMaster = false → ∀ w ∈ ws, w.Torn)

/-- No engine is taken from s to t, and both pointers stand. -/
structure State.NoGrant (s t : State) : Prop where
  timing : ∀ j, t.timing.owner = some j → s.timing.owner = some j
  mix : ∀ e j, (t.mixEng e).owner = some j → (s.mixEng e).owner = some j
  ptr : t.timing.ptr = s.timing.ptr
  mixPtr : t.mixPtr = s.mixPtr

/-- What an operation for the lanes of L may do. -/
structure State.Moves (L : LaneId → Prop) (s t : State) : Prop where
  others : ∀ j, ¬ L j → t.lane j = s.lane j
  lanes : ∀ j, Lane.Moves s.hold (s.lane j) (t.lane j)
  dev : t.dev = s.dev
  bus : t.bus = s.bus
  pending : t.pending = s.pending
  mask : t.mask = s.mask
  dirBase : t.dirBase = s.dirBase
  puts : s.Puts t
  grants : s.hold = true → s.NoGrant t

theorem State.Puts.same {s t : State} (h : t.wire = s.wire) : s.Puts t := ⟨[], by simp [h], fun _ _ => by simp⟩

theorem State.NoGrant.same {s t : State} (timing : t.timing = s.timing) (mix : t.mix = s.mix)
    (mixPtr : t.mixPtr = s.mixPtr) : s.NoGrant t :=
  ⟨fun _ => by rw [timing]; exact id, fun e _ => by unfold State.mixEng; rw [mix]; exact id, by rw [timing], mixPtr⟩

theorem State.NoGrant.trans {s t u : State} (h : s.NoGrant t) (k : t.NoGrant u) : s.NoGrant u :=
  ⟨fun j own => h.timing j (k.timing j own), fun e j own => h.mix e j (k.mix e j own), k.ptr.trans h.ptr,
    k.mixPtr.trans h.mixPtr⟩

theorem State.hold_of_dev {s t : State} (h : t.dev = s.dev) : t.hold = s.hold := by rw [State.hold, h, State.hold]

theorem State.Moves.refl (L : LaneId → Prop) (s : State) : State.Moves L s s :=
  ⟨fun _ _ => rfl, fun _ => .refl _ _, rfl, rfl, rfl, rfl, rfl, .same rfl, fun _ => .same rfl rfl rfl⟩

theorem State.Moves.trans {L : LaneId → Prop} {s t u : State} (h : State.Moves L s t) (k : State.Moves L t u) :
    State.Moves L s u where
  others j hj := (k.others j hj).trans (h.others j hj)
  lanes j := (h.lanes j).trans (State.hold_of_dev h.dev ▸ k.lanes j)
  dev := k.dev.trans h.dev
  bus := k.bus.trans h.bus
  pending := k.pending.trans h.pending
  mask := k.mask.trans h.mask
  dirBase := k.dirBase.trans h.dirBase
  puts := by
    obtain ⟨ws, wire, torn⟩ := h.puts
    obtain ⟨ws', wire', torn'⟩ := k.puts
    refine ⟨ws ++ ws', by rw [wire', wire, List.append_assoc], fun off w hw => ?_⟩
    exact (List.mem_append.mp hw).elim (torn off w) (torn' (by rw [h.bus, off]) w)
  grants hold := (h.grants hold).trans (k.grants (by rw [State.hold_of_dev h.dev, hold]))

theorem State.Moves.mono {L M : LaneId → Prop} {s t : State} (h : State.Moves L s t) (sub : ∀ j, L j → M j) :
    State.Moves M s t :=
  { h with others := fun j hj => h.others j fun l => hj (sub j l) }

/-- A change of lane i's context within `Lane.Moves`. -/
theorem State.Moves.lane {i : LaneId} {s t : State} (only : State.LaneOnly i s t)
    (m : Lane.Moves s.hold (s.lane i) (t.lane i)) : State.Moves (Eq i) s t := by
  obtain ⟨-, -, timing, mix, mixPtr, -, mask, dirBase, -, dev, bus, wire, -, -, pending⟩ := only.fields
  refine ⟨fun j hj => only.lane_ne fun e => hj e.symm, fun j => ?_, dev, bus, pending, mask, dirBase, .same wire,
    fun _ => .same timing mix mixPtr⟩
  by_cases hj : j = i
  · exact hj ▸ m
  · rw [only.lane_ne hj]
    exact .refl _ _

theorem State.Moves.setLane {s : State} {i : LaneId} {l : Lane} (m : Lane.Moves s.hold (s.lane i) l) :
    State.Moves (Eq i) s (s.setLane i l) :=
  .lane (.setLane _ _ _) (by rwa [State.lane_setLane_same])

theorem State.Moves.modLane {s : State} {i : LaneId} {f : Lane → Lane} (m : Lane.Moves s.hold (s.lane i) (f (s.lane i))) :
    State.Moves (Eq i) s (s.modLane i f) := .setLane m

/-- A change of the state that no lane, register or engine sees. -/
theorem State.Moves.unseen {L : LaneId → Prop} {s t : State} (lanes : t.lanes = s.lanes) (dev : t.dev = s.dev)
    (bus : t.bus = s.bus) (pending : t.pending = s.pending) (mask : t.mask = s.mask) (dirBase : t.dirBase = s.dirBase)
    (puts : s.Puts t) (grants : s.hold = true → s.NoGrant t) : State.Moves L s t := by
  have lane (j : LaneId) : t.lane j = s.lane j := by rw [State.lane, lanes, State.lane]
  exact ⟨fun j _ => lane j, fun j => lane j ▸ .refl _ _, dev, bus, pending, mask, dirBase, puts, grants⟩

theorem State.Moves.freeCues (L : LaneId → Prop) (s : State) (n : Nat) : State.Moves L s (s.freeCues n) :=
  .unseen rfl rfl rfl rfl rfl rfl (.same rfl) fun _ => .same rfl rfl rfl

theorem State.Moves.freeClips (L : LaneId → Prop) (s : State) (n : Nat) : State.Moves L s (s.freeClips n) :=
  .unseen rfl rfl rfl rfl rfl rfl (.same rfl) fun _ => .same rfl rfl rfl

theorem State.Moves.putTorn (L : LaneId → Prop) (s : State) (a : Addr) (b : List Byte) :
    State.Moves L s (s.put (.torn a b)) :=
  .unseen rfl rfl rfl rfl rfl rfl ⟨[.torn a b], rfl, fun _ _ hw => ⟨a, b, List.mem_singleton.mp hw⟩⟩
    fun _ => .same rfl rfl rfl

theorem State.Moves.releaseTiming (L : LaneId → Prop) (s : State) : State.Moves L s s.releaseTiming :=
  .unseen rfl rfl rfl rfl rfl rfl (.same rfl)
    fun _ => ⟨fun _ own => by simp at own, fun _ _ => id, rfl, rfl⟩

theorem State.Moves.setMix (L : LaneId → Prop) (s : State) (e : MixId) (m : MixEngine)
    (h : s.hold = true → ∀ j, m.owner = some j → (s.mixEng e).owner = some j) : State.Moves L s (s.setMix e m) := by
  refine .unseen rfl rfl rfl rfl rfl rfl (.same rfl) fun on => ⟨fun _ => id, fun e' j own => ?_, rfl, rfl⟩
  rw [State.mixEng_setMix] at own
  split at own
  next same => exact same ▸ h on j own
  · exact own

theorem State.Moves.releaseMix (L : LaneId → Prop) (s : State) (e : MixId) : State.Moves L s (s.releaseMix e) :=
  .setMix L s e _ fun _ _ own => by simp [MixEngine.reset] at own

/-! ## Reads, sequences and retirements -/

section
variable (s : State) (i : LaneId)

theorem State.Moves.startRead (st : LaneState) (r : LaneRead) : State.Moves (Eq i) s (s.startRead i st r) :=
  .setLane (.toRead _ _ _ _)

theorem State.Moves.resumeNow : State.Moves (Eq i) s (s.resumeNow i) := .startRead _ _ _ _

theorem State.Moves.dropRead : State.Moves (Eq i) s (s.dropRead i) := .setLane (.toIdle _ _ _)

theorem State.Moves.enqueue : State.Moves (Eq i) s (s.enqueue i) := .setLane (.toIdle _ _ _)

theorem State.Moves.finishSeq (q : WriteSeq) (kept : Bool) : State.Moves (Eq i) s (s.finishSeq i q kept) := by
  by_cases teardown : q.kind = .teardown
  · rw [State.finishSeq_teardown kept teardown]
    exact .setLane (.tornDown _ _ _)
  · rw [State.finishSeq_eq kept teardown]
    exact .setLane (.eventEnded _ _ _ _)

theorem State.Moves.handNotice (q : WriteSeq) (n : Notice) : State.Moves (Eq i) s (s.handNotice i q n) := by
  rw [State.handNotice_eq]
  exact .setLane (.noticeHanded _ _ _ _ _)

theorem State.Moves.runSeq : State.Moves (Eq i) s (s.runSeq i) := by
  unfold State.runSeq
  repeat' split
  · exact .finishSeq _ _ _ _
  · exact .handNotice _ _ _ _
  all_goals exact .refl _ _

/-- A sequence starts, unbegun under HOLD or in place of one begun. -/
theorem State.Moves.startSeq (st : LaneState) (k : SeqKind) (steps : List SeqStep) (begun : Bool)
    (h : s.hold = true → begun = true → ∃ q, (s.lane i).io = .seq q ∧ q.begun = true)
    (notes : (s.lane i).NoteBitsInRange → ∀ r ∈ k.result, NotesInRange r.notes) :
    State.Moves (Eq i) s (s.startSeq i st k steps begun) :=
  (State.Moves.modLane (.toSeq st h notes)).trans (.runSeq _ _)

theorem State.Moves.startSeq_fresh (st : LaneState) (k : SeqKind) (steps : List SeqStep)
    (notes : (s.lane i).NoteBitsInRange → ∀ r ∈ k.result, NotesInRange r.notes) :
    State.Moves (Eq i) s (s.startSeq i st k steps (!s.hold)) :=
  .startSeq s i st k steps _ (fun on begun => by simp [on] at begun) notes

theorem State.Moves.popStep {s : State} {i : LaneId} {q p : WriteSeq} (io : (s.lane i).io = .seq p)
    (begun : q.begun = p.begun) (kind : q.kind = p.kind) : State.Moves (Eq i) s (s.popStep i q) := by
  refine (State.Moves.modLane ?_).trans (.runSeq _ _)
  exact .toSeq (s.lane i).state (fun _ on => ⟨p, io, by rw [← begun]; exact on⟩)
    fun h r hr => h.result io (by rw [← kind]; exact hr)

theorem State.Moves.retire (o : RecOutcome) (why : Reason) : State.Moves (Eq i) s (s.retire i o why) := by
  cases cur : (s.lane i).cur with
  | none =>
    rw [State.retire, cur]
    exact .refl _ _
  | some c =>
    rw [State.retire_eq o why cur]
    exact .setLane (.retiring o why cur)

theorem State.Moves.retireDone : State.Moves (Eq i) s (s.retireDone i) := by
  unfold State.retireDone
  split
  · exact .refl _ _
  · exact .retire _ _ _ _

theorem State.Moves.stopWork : State.Moves (Eq i) s (s.modLane i Lane.stopWork) :=
  .modLane (by rw [Lane.stopWork_eq]; exact .workEnded _ _)

theorem State.Moves.retireOwed {c : Record} {o : Owed} (notes : (s.lane i).NoteBitsInRange → NotesInRange o.res.notes) :
    State.Moves (Eq i) s (s.retireOwed i c o) := by
  have start := State.Moves.startSeq_fresh (s.modLane i Lane.stopWork) i .retiring (.retire o.res)
    (retireSteps s i c o.res (!o.accepted)) fun h r hr => ?_
  · exact (State.Moves.stopWork s i).trans start
  · rw [← Option.some.inj hr]
    rw [State.lane_modLane_same] at h
    exact notes ⟨h.1, h.2⟩

theorem State.Moves.failOwed (c : Record) (o : Owed) (why : Reason) : State.Moves (Eq i) s (s.failOwed i c o why) := by
  refine (State.Moves.modLane ?_).trans (.startSeq_fresh _ _ _ _ _ fun _ _ hr => by simp [SeqKind.result] at hr)
  dsimp only
  rw [Lane.stopWork_eq]
  exact (Lane.Moves.workEnded _ _).trans (.same rfl rfl rfl rfl)

theorem State.Moves.failRecord (why : Reason) : State.Moves (Eq i) s (s.failRecord i why) := by
  unfold State.failRecord
  repeat' split
  · exact .refl _ _
  · exact .failOwed _ _ _ _ _
  · exact .retire _ _ _ _

theorem State.Moves.entryHalt (why : Reason) (a : Addr) : State.Moves (Eq i) s (s.entryHalt i why a) := by
  refine (State.Moves.modLane ?_).trans (.startSeq_fresh _ _ _ _ _ fun _ _ hr => by simp [SeqKind.result] at hr)
  exact (Lane.Moves.setCur _ _ fun _ _ h => by simp at h).trans (.same rfl rfl rfl rfl)

theorem State.Moves.retireSkipped {c : Record} (notes : (s.lane i).NoteBitsInRange → NotesInRange c.ex.notes) :
    State.Moves (Eq i) s (s.retireSkipped i c) := by
  rw [State.retireSkipped_eq]
  refine .setLane ((Lane.Moves.workEnded _ _).trans (.toSeq _ (fun on begun => ?_) fun h r hr => ?_))
  · simp [on] at begun
  · rw [← Option.some.inj hr]
    exact notes ⟨h.1, h.2⟩

theorem State.Moves.skipNow : State.Moves (Eq i) s (s.skipNow i) := by
  unfold State.skipNow
  split
  · exact .refl _ _
  next c cur =>
    split
    · exact .startRead _ _ _ _
    · exact .retireSkipped _ _ fun h => (h.record c cur).1

theorem State.Moves.prefetch : State.Moves (Eq i) s (s.prefetch i) := by
  unfold State.prefetch
  split
  · exact .refl _ _
  · split
    next may =>
      simp only [Lane.mayPrefetch, Bool.and_eq_true, Bool.not_eq_true'] at may
      obtain ⟨⟨⟨⟨-, unpaused⟩, -⟩, -⟩, run⟩ := may
      exact .modLane (.prefetch _ (.issue _ _ unpaused run))
    · exact .refl _ _

theorem State.Moves.judgeHead : State.Moves (Eq i) s (s.judgeHead i) := by
  unfold State.judgeHead
  repeat' split
  · exact .enqueue _ _
  · exact .failRecord _ _ _
  all_goals exact .refl _ _

theorem State.Moves.nextIntake : State.Moves (Eq i) s (s.nextIntake i) := by
  unfold State.nextIntake
  split
  · exact .failRecord _ _ _
  · exact (State.Moves.modLane (.same rfl rfl rfl rfl)).trans (.startRead _ _ _ _)

end

end Sys2Proof.Machine
end

section
/-! The commands as moves: records, fetches, gates, units, sequences and notices. -/

namespace Sys2Proof.Machine

open Sys2Proof

/-! ## Records -/

section
variable (s : State) (i : LaneId)

/-- The execution state changes with items that carry no note bits, transfer, poll or queue. -/
theorem Lane.Moves.withExOf {hold : Bool} {l m : Lane} {f : ExecState → ExecState} (cur : m.cur = l.cur)
    (io : m.io = l.io) (gate : m.gate.poll = l.gate.poll) (pf : m.pf = l.pf)
    (h : ∀ x, NotesInRange x.notes → NotesInRange (f x).notes) : Lane.Moves hold l (m.withEx f) :=
  (Lane.Moves.same cur io gate pf).trans (.withEx _ _ h)

theorem State.Moves.withEx {f : ExecState → ExecState} (h : ∀ x, NotesInRange x.notes → NotesInRange (f x).notes) :
    State.Moves (Eq i) s (s.modLane i fun l => l.withEx f) := .modLane (.withEx _ _ h)

theorem State.Moves.execOpen (c : Record) : State.Moves (Eq i) s (s.execOpen i c) := by
  unfold State.execOpen
  split
  · exact .failRecord _ _ _
  next k p _ =>
    have opened : State.Moves (Eq i) s (s.modLane i fun l => (l.opened k p).withEx fun _ => ExecState.zero) :=
      .modLane (.withExOf rfl rfl rfl rfl fun _ _ => notesInRange_zero)
    exact ((opened.trans (.freeCues _ _ _)).trans (.freeClips _ _ _)).trans (.retire _ _ _ _)

theorem Record.NotesFit.owe {c : Record} (h : c.NotesFit) {r : RecResult} (notes : NotesInRange r.notes) (b : Bool) :
    (c.owe r b).NotesFit := by
  refine ⟨h.1, fun o ho => ?_⟩
  rw [← Option.some.inj ho]
  exact notes

theorem State.Moves.execClose : State.Moves (Eq i) s (s.execClose i) := by
  unfold State.execClose
  dsimp only
  generalize List.replicate ((s.lane i).store.length + (s.lane i).table.length) NoteKind.leftover = notes
  generalize (s.lane i).store.length + (s.lane i).table.length = n
  have closed : State.Moves (Eq i) s
      (s.setLane i (((s.lane i).closed.withEx fun x => { x with progress := n }).credit notes)) :=
    .setLane ((Lane.Moves.withExOf (l := s.lane i) (m := (s.lane i).closed) (f := fun x => { x with progress := n })
      rfl rfl rfl rfl fun _ => id).trans (.credit _ _ _))
  have freed := (closed.trans (.freeCues _ _ (s.lane i).store.length)).trans (.freeClips _ _ (s.lane i).table.length)
  split
  · refine (freed.trans ?_).trans (.retire _ _ _ _)
    generalize ((s.setLane i _).freeCues _).freeClips _ = t
    refine .modLane (.setCur _ _ fun h c hc => ?_)
    obtain ⟨c', hc', rfl⟩ := Option.map_eq_some_iff.mp hc
    have fits := h.record c' hc'
    exact fits.owe (r := { outcome := .noted, reason := .none, notes := c'.ex.notes, progress := c'.ex.progress })
      fits.1 false
  · exact freed.trans (.retireDone _ _)

theorem State.Moves.execLink (c : Record) : State.Moves (Eq i) s (s.execLink i c) :=
  iteInduction (fun _ => .failRecord _ _ _)
    fun _ => .startSeq_fresh _ _ _ _ _ fun _ _ hr => by simp [SeqKind.result] at hr

theorem State.Moves.execStop (c : Record) : State.Moves (Eq i) s (s.execStop i c) := by
  have left : State.Moves (Eq i) s (s.modLane i fun l => { l with cur := none, next := some c.addr }) :=
    .modLane ((Lane.Moves.setCur _ _ fun _ _ h => by simp at h).trans (.same rfl rfl rfl rfl))
  unfold State.execStop
  refine iteInduction (fun _ => ?_) fun _ => left.trans
    (.startSeq_fresh _ _ _ _ _ fun _ _ hr => by simp [SeqKind.result] at hr)
  exact (left.trans (.modLane (.same rfl rfl rfl rfl))).trans (.startRead _ _ _ _)

theorem State.Moves.execCues (c : Record) : State.Moves (Eq i) s (s.execCues i c) :=
  iteInduction (fun _ => .failRecord _ _ _) fun _ =>
    iteInduction (fun _ => .retireDone _ _) fun _ => .nextIntake _ _

theorem State.Moves.execCue (c : Record) : State.Moves (Eq i) s (s.execCue i c) :=
  iteInduction (fun _ => .retireDone _ _) fun _ =>
    iteInduction (fun _ => .enqueue _ _) fun _ => .failRecord _ _ _

theorem State.Moves.execClip (c : Record) : State.Moves (Eq i) s (s.execClip i c) :=
  iteInduction (fun _ => .retireDone _ _) fun _ =>
    iteInduction (fun _ => .failRecord _ _ _) fun _ => .enqueue _ _

theorem State.Moves.execEmit (c : Record) : State.Moves (Eq i) s (s.execEmit i c) := by
  unfold State.execEmit
  dsimp only
  split
  · exact .failRecord _ _ _
  · split
    · exact .retireDone _ _
    next k _ =>
      have set := State.Moves.withEx s i (f := fun x => { x with through := k }) fun _ => id
      repeat' split
      · exact set.trans (.retireDone _ _)
      · exact set.trans (.failRecord _ _ _)
      · exact set.trans (.enqueue _ _)

theorem State.Moves.execMix (c : Record) : State.Moves (Eq i) s (s.execMix i c) := by
  unfold State.execMix
  dsimp only
  repeat' split
  · exact .failRecord _ _ _
  · exact .retireDone _ _
  · refine State.Moves.trans (.modLane ?_) (.prefetch _ _)
    exact .of Lane.NoteBitsInRange.record .idle ⟨id, fun _ _ _ => id⟩ fun _ => id

theorem State.Moves.execMark : State.Moves (Eq i) s (s.execMark i) :=
  (State.Moves.withEx s i (f := fun _ => ExecState.zero) fun _ _ => notesInRange_zero).trans (.retire _ _ _ _)

theorem State.Moves.execute : State.Moves (Eq i) s (s.execute i) := by
  unfold State.execute
  split
  · exact .refl _ _
  next c cur =>
    split
    next o owed => exact .retireOwed _ _ fun h => (h.record c cur).2 o owed
    · split
      · exact .execOpen _ _ _
      · exact .execClose _ _
      · exact .execCues _ _ _
      · exact .execCue _ _ _
      · exact .execEmit _ _ _
      · exact .execClip _ _ _
      · exact .execMix _ _ _
      · exact .execMark _ _
      · exact .execLink _ _ _
      · exact .execStop _ _ _
      · exact .refl _ _

theorem State.Moves.startGate (c : Record) : State.Moves (Eq i) s (s.startGate i c) := by
  unfold State.startGate
  refine iteInduction (fun _ => .modLane ?_) fun _ => .failRecord _ _ _
  exact .of Lane.NoteBitsInRange.record .idle (.refl _ _) fun on poll => by simp [on] at poll

theorem State.Moves.recordFetched : State.Moves (Eq i) s (s.recordFetched i) := by
  unfold State.recordFetched
  split
  · exact .refl _ _
  · exact iteInduction (fun _ => .startGate _ _ _) fun _ => .execute _ _

/-! ## Fetches -/

theorem State.Moves.entryRead (a : Addr) : State.Moves (Eq i) s (s.entryRead i a) := by
  unfold State.entryRead
  refine iteInduction (fun _ => iteInduction (fun _ => .dropRead _ _) fun _ => ?_) fun _ => .refl _ _
  exact iteInduction (fun _ => .entryHalt _ _ _ _) fun _ =>
    (State.Moves.modLane (.same rfl rfl rfl rfl)).trans (.startRead _ _ _ _)

theorem State.Moves.entryFailed : State.Moves (Eq i) s (s.entryFailed i) :=
  iteInduction (fun _ => iteInduction (fun _ => .dropRead _ _) fun _ => .entryHalt _ _ _ _) fun _ => .refl _ _

theorem ExecState.zero_notes : NotesInRange ExecState.zero.notes := notesInRange_zero

theorem Record.NotesFit.fresh {c : Record} (ex : c.ex = ExecState.zero) (owed : c.owed = none) : c.NotesFit :=
  ⟨ex ▸ ExecState.zero_notes, fun _ ho => by simp [owed] at ho⟩

theorem Lane.fetched_notesFit {l : Lane} (fits : l.NoteBitsInRange) (h : Header) (body : List Byte) :
    (l.fetched h body).NotesFit := by
  unfold Lane.fetched
  split
  next c cur => exact fits.record c cur
  · exact .fresh rfl rfl

theorem Record.NotesFit.compared {c : Record} (fits : c.NotesFit) (h : Header) : (c.compared h).NotesFit :=
  iteInduction (fun _ => fits) fun _ => .fresh rfl rfl

/-- The lane holds the record as fetched. -/
theorem State.Moves.holdFetched (h : Header) (body : List Byte) :
    State.Moves (Eq i) s (s.modLane i fun l => { l with cur := some (l.fetched h body) }) :=
  .modLane (.setCur _ _ fun fits _ hc => Option.some.inj hc ▸ Lane.fetched_notesFit fits h body)

theorem State.Moves.failHeader (h : Header) (why : Reason) : State.Moves (Eq i) s (s.failHeader i h why) :=
  (State.Moves.modLane (.setCur _ _ fun _ _ hc => Option.some.inj hc ▸ .fresh rfl rfl)).trans (.retire _ _ _ _)

theorem State.Moves.judgeHeader (h : Header) : State.Moves (Eq i) s (s.judgeHeader i h) := by
  have compared : State.Moves (Eq i) s (s.modLane i fun l => { l with cur := l.cur.map (fun c => c.compared h) }) := by
    refine .modLane (.setCur _ _ fun fits c hc => ?_)
    obtain ⟨c', hc', rfl⟩ := Option.map_eq_some_iff.mp hc
    exact Record.NotesFit.compared (fits.record c' hc') h
  unfold State.judgeHeader
  refine compared.trans ?_
  dsimp only
  generalize s.modLane i (fun l => { l with cur := l.cur.map (fun c => c.compared h) }) = t
  have fetched := State.Moves.holdFetched t i h
  have goesOn : State.Moves (Eq i) t
      (if h.len = 16 then (t.modLane i fun l => { l with cur := some (l.fetched h []) }).recordFetched i
       else t.startRead i .fetching (.body h)) :=
    iteInduction (fun _ => (fetched []).trans (.recordFetched _ _)) fun _ => .startRead _ _ _ _
  split
  · refine iteInduction (fun _ => State.Moves.trans (.modLane ?_) (.failOwed _ _ _ _ _)) fun _ => goesOn
    exact .setCur _ _ fun fits _ hc => Option.some.inj hc ▸ Lane.fetched_notesFit fits h []
  · refine iteInduction (fun _ => .failHeader _ _ _ _) fun _ => ?_
    split
    · exact .failHeader _ _ _ _
    · exact goesOn

theorem State.Moves.skipHeader (h : Header) : State.Moves (Eq i) s (s.skipHeader i h) := by
  unfold State.skipHeader
  split
  · exact .refl _ _
  next c cur =>
    refine State.Moves.trans (.modLane (.setCur _ _ fun fits c' hc => ?_)) (.retireSkipped _ _ fun fits => ?_)
    · rw [← Option.some.inj hc]
      exact fits.record c cur
    · exact (fits.record { c with hdr := some { h with kind := none } } (by simp)).1

theorem State.Moves.headerRead (b : BitVec 128) : State.Moves (Eq i) s (s.headerRead i b) := by
  unfold State.headerRead
  exact iteInduction (fun _ => iteInduction (fun _ => .dropRead _ _) fun _ => .judgeHeader _ _ _) fun _ =>
    iteInduction (fun _ => iteInduction (fun _ => .dropRead _ _) fun _ => .skipHeader _ _ _) fun _ => .refl _ _

theorem State.Moves.bodyRead (b : List Byte) : State.Moves (Eq i) s (s.bodyRead i b) := by
  unfold State.bodyRead
  split
  · exact iteInduction (fun _ => iteInduction (fun _ => .dropRead _ _) fun _ =>
      (State.Moves.holdFetched _ _ _ _).trans (.recordFetched _ _)) fun _ => .refl _ _
  · exact .refl _ _

theorem State.Moves.fetchFailed : State.Moves (Eq i) s (s.fetchFailed i) := by
  unfold State.fetchFailed
  split
  · refine iteInduction (fun _ => .dropRead _ _) fun _ => ?_
    refine (State.Moves.modLane (.setCur _ _ fun fits c hc => ?_)).trans (.failRecord _ _ _)
    rw [← Option.some.inj hc]
    cases cur : (s.lane i).cur with
    | none => exact .fresh rfl rfl
    | some c' => exact fits.record c' cur
  · exact iteInduction (fun _ => .dropRead _ _) fun _ =>
      (State.Moves.holdFetched _ _ _ _).trans (.failRecord _ _ _)
  · exact .refl _ _

/-! ## Gates -/

theorem State.Moves.endPoll {p : PollState} (h : s.hold = true → p = .outstanding → (s.lane i).gate.poll = .outstanding) :
    State.Moves (Eq i) s (s.endPoll i p) := .modLane (.gate _ _ h)

theorem State.Moves.endStalePoll : State.Moves (Eq i) s (s.endStalePoll i) :=
  .modLane (.gate _ _ fun on poll => by simpa [on] using poll)

theorem State.Moves.openGate : State.Moves (Eq i) s (s.openGate i) :=
  (State.Moves.modLane (.gate _ _ fun _ poll => by simp at poll)).trans (.execute _ _)

theorem State.Moves.pollDone (w : BitVec 32) : State.Moves (Eq i) s (s.pollDone i w) := by
  unfold State.pollDone
  repeat' split
  · exact .endPoll _ _ fun _ h => by simp at h
  · exact .openGate _ _
  · exact .endPoll _ _ fun _ h => by simp at h
  · exact .endStalePoll _ _
  · exact .refl _ _

theorem State.Moves.pollFailed : State.Moves (Eq i) s (s.pollFailed i) := by
  unfold State.pollFailed
  repeat' split
  · exact .endPoll _ _ fun _ h => by simp at h
  · exact (State.Moves.endPoll _ _ fun _ h => by simp at h).trans (.failRecord _ _ _)
  · exact .endStalePoll _ _
  · exact .refl _ _

/-! ## Intake and programme blocks -/

theorem State.Moves.intakeDone (cues : List RawCue) : State.Moves (Eq i) s (s.intakeDone i cues) := by
  unfold State.intakeDone
  dsimp only
  repeat' split
  · exact .refl _ _
  · exact .refl _ _
  · exact .dropRead _ _
  · exact (State.Moves.dropRead _ _).trans (.failRecord _ _ _)
  · exact .modLane (.of Lane.NoteBitsInRange.record .idle (.refl _ _) fun _ => id)
  · exact .refl _ _

theorem State.Moves.intakeFailed : State.Moves (Eq i) s (s.intakeFailed i) :=
  iteInduction (fun _ => iteInduction (fun _ => .dropRead _ _) fun _ =>
    (State.Moves.dropRead _ _).trans (.failRecord _ _ _)) fun _ => .refl _ _

theorem State.Moves.blockRead (b : List Byte) : State.Moves (Eq i) s (s.blockRead i b) := by
  unfold State.blockRead
  split
  next live =>
    refine iteInduction (fun _ => ?_) fun _ => .refl _ _
    exact ((State.Moves.modLane (.prefetch _ (.join _ live _))).trans (.judgeHead _ _)).trans (.prefetch _ _)
  all_goals exact .refl _ _

theorem State.Moves.blockFailed : State.Moves (Eq i) s (s.blockFailed i) := by
  unfold State.blockFailed
  split
  next off _ live =>
    have join := Prefetch.Moves.join s.hold live (.errored off)
    refine State.Moves.trans (.modLane (.prefetch _ ?_)) (.judgeHead _ _)
    exact join.trans ⟨id, fun _ _ _ => id⟩
  all_goals exact .refl _ _

theorem State.Moves.staleEnded : State.Moves (Eq i) s (s.staleEnded i) :=
  iteInduction (fun _ => (State.Moves.modLane (.prefetch _ (.endRead _ _ fun _ _ => by simp))).trans (.prefetch _ _))
    fun _ => .refl _ _

end

end Sys2Proof.Machine
end

section
/-! The engines' units, write sequences and notices as moves; every command as a step of that kind (R167, R169). -/

namespace Sys2Proof.Machine

open Sys2Proof

/-! ## The Timing Engine -/

/-- The lane that holds the Timing Engine. -/
def State.TimingLane (s : State) (j : LaneId) : Prop := s.timing.owner = some j

/-- The lane that holds Mix Engine e. -/
def State.MixLane (s : State) (e : MixId) (j : LaneId) : Prop := (s.mixEng e).owner = some j

theorem State.unitOwner_some {s : State} {u : TimingUnit} {i : LaneId} (h : s.unitOwner u = some i) :
    s.timing.owner = some i ∧ s.timing.unit = u := by
  unfold State.unitOwner at h
  split at h
  next unit => exact ⟨h, unit⟩
  · cases h

theorem State.Moves.byOwner {s t : State} {i : LaneId} {L : LaneId → Prop} (h : State.Moves (Eq i) s t) (own : L i) :
    State.Moves L s t := h.mono fun _ e => e ▸ own

section
variable (s : State)

theorem State.Moves.credit (i : LaneId) {m : Lane} (ns : List NoteKind) (h : Lane.Moves s.hold (s.lane i) m) :
    State.Moves (Eq i) s (s.setLane i (m.credit ns)) := .setLane (h.trans (.credit _ _ _))

theorem State.Moves.cueFree (L : LaneId → Prop) (n : Nat) : State.Moves L s { s with cueFree := n } :=
  .unseen rfl rfl rfl rfl rfl rfl (.same rfl) fun _ => .same rfl rfl rfl

theorem State.Moves.clipFree (L : LaneId → Prop) (n : Nat) : State.Moves L s { s with clipFree := n } :=
  .unseen rfl rfl rfl rfl rfl rfl (.same rfl) fun _ => .same rfl rfl rfl

theorem State.Moves.afterCueUnit (i : LaneId) (w : CueWork) : State.Moves (Eq i) s (s.afterCueUnit i w) := by
  unfold State.afterCueUnit
  dsimp only
  repeat' split
  · exact .refl _ _
  · exact .retire _ _ _ _
  · exact .retire _ _ _ _
  · exact .retire _ _ _ _
  · exact .retireDone _ _
  · exact .nextIntake _ _

theorem State.Moves.afterCues (i : LaneId) (w : CueWork) :
    State.Moves (Eq i) s (s.setLane i ((s.lane i).afterCues w)) :=
  .credit _ _ _ (.withExOf (m := { s.lane i with store := w.store, lastStart := w.lastStart }) rfl rfl rfl rfl fun _ => id)

theorem State.Moves.cueUnitEnds : State.Moves s.TimingLane s s.cueUnitEnds := by
  unfold State.cueUnitEnds
  split
  · exact .refl _ _
  next i own =>
    refine State.Moves.byOwner (i := i) ?_ (State.unitOwner_some own).1
    split
    · exact .refl _ _
    next c _ =>
      dsimp only
      have ended := ((State.Moves.releaseTiming (Eq i) s).trans (.afterCues _ i
        (cueUnit (s.lane i) c.ex s.cueFree ((s.lane i).batch c)))).trans (.cueFree _ _
          (cueUnit (s.lane i) c.ex s.cueFree ((s.lane i).batch c)).free)
      exact iteInduction (fun _ => ended) fun _ => ended.trans (.afterCueUnit _ _ _)

theorem State.Moves.afterClipUnit (i : LaneId) (ns : List NoteKind) : State.Moves (Eq i) s (s.afterClipUnit i ns) := by
  unfold State.afterClipUnit
  repeat' split
  · exact .refl _ _
  · exact .retire _ _ _ _
  · exact .retireDone _ _

theorem State.Moves.afterClip (i : LaneId) (table : List ClipEntry) (ns : List NoteKind) :
    State.Moves (Eq i) s (s.setLane i ((s.lane i).afterClip table ns)) :=
  .credit _ _ _ (.withExOf (m := { s.lane i with table := table }) rfl rfl rfl rfl fun _ => id)

theorem State.Moves.clipUnitEnds : State.Moves s.TimingLane s s.clipUnitEnds := by
  unfold State.clipUnitEnds
  split
  · exact .refl _ _
  next i own =>
    refine State.Moves.byOwner (i := i) ?_ (State.unitOwner_some own).1
    have release := State.Moves.releaseTiming (Eq i) s
    split
    · exact .refl _ _
    · dsimp only
      split
      next ns _ => exact (release.trans (.afterClip _ i (s.lane i).table ns)).trans (.afterClipUnit _ _ _)
      · exact iteInduction (fun _ => release) fun _ => release.trans (.retire _ _ _ _)
      next e ns _ =>
        exact ((release.trans (.afterClip _ i (insertClip e (s.lane i).table) ns)).trans
          (.clipFree _ _ (s.clipFree - 1))).trans (.afterClipUnit _ _ _)

theorem State.Moves.afterSegment (i : LaneId) (ns : List NoteKind) : State.Moves (Eq i) s (s.afterSegment i ns) := by
  unfold State.afterSegment
  dsimp only
  repeat' split
  · exact .refl _ _
  · exact .refl _ _
  · exact .retire _ _ _ _
  · exact .retireDone _ _
  · exact .enqueue _ _

theorem Lane.Moves.completeSegment (hold : Bool) (l : Lane) (size : Nat) (diff : Option Nat) :
    Lane.Moves hold l (l.completeSegment size diff) := by
  unfold Lane.completeSegment
  dsimp only
  refine Lane.Moves.trans ?_ (.credit _ _ _)
  refine Lane.Moves.withExOf (m := { l with nextSeg := _, store := _, segTotal := _ }) rfl rfl rfl rfl fun x h => ?_
  cases diff <;> exact h

theorem State.Moves.segmentDone (i : LaneId) (diff : Option Nat) : State.Moves (Eq i) s (s.segmentDone i diff) :=
  (((State.Moves.releaseTiming _ s).trans (.setLane (.completeSegment _ (s.lane i) _ diff))).trans
    (.freeCues _ _ _)).trans (.afterSegment _ _ _)

theorem State.Moves.timingUnitFails (i : LaneId) : State.Moves (Eq i) s (s.timingUnitFails i) :=
  iteInduction (fun _ => .releaseTiming _ _) fun _ => (State.Moves.releaseTiming _ s).trans (.failRecord _ _ _)

/-- R53: the segment is complete after its write, or there is none. -/
theorem State.Moves.segmentWritten :
    s.segmentWritten = s ∨ ∃ a b, State.Moves s.TimingLane (s.put (.accepted a b)) s.segmentWritten := by
  unfold State.segmentWritten
  split
  · exact .inl rfl
  next i own =>
    split
    · exact .inl rfl
    · exact .inr ⟨_, _, (State.Moves.segmentDone _ _ _).byOwner (State.unitOwner_some own).1⟩

theorem State.Moves.segmentRefused : State.Moves s.TimingLane s s.segmentRefused := by
  unfold State.segmentRefused
  split
  · exact .refl _ _
  next i own =>
    refine State.Moves.byOwner (i := i) ?_ (State.unitOwner_some own).1
    split
    · exact .refl _ _
    · exact (State.Moves.putTorn _ _ _ _).trans (.timingUnitFails _ _)

theorem State.Moves.segmentCompared (b : List Byte) : State.Moves s.TimingLane s (s.segmentCompared b) := by
  unfold State.segmentCompared
  split
  · exact .refl _ _
  next i own =>
    exact iteInduction (fun _ => (State.Moves.segmentDone _ _ _).byOwner (State.unitOwner_some own).1) fun _ => .refl _ _

theorem State.Moves.compareFailed : State.Moves s.TimingLane s s.compareFailed := by
  unfold State.compareFailed
  split
  · exact .refl _ _
  next i own => exact (State.Moves.timingUnitFails _ _).byOwner (State.unitOwner_some own).1

/-- R46: the unit in the Timing Engine changes, its owner not. -/
theorem State.Moves.timingUnit (L : LaneId → Prop) {e : TimingEngine} (owner : e.owner = s.timing.owner)
    (ptr : e.ptr = s.timing.ptr) : State.Moves L s { s with timing := e } :=
  .unseen rfl rfl rfl rfl rfl rfl (.same rfl) fun _ => ⟨fun _ => by rw [owner]; exact id, fun _ _ => id, ptr, rfl⟩

theorem State.Moves.beginUnit (i : LaneId) : State.Moves (Eq i) s (s.beginUnit i) := by
  unfold State.beginUnit State.beginSegment
  dsimp only
  repeat' split
  · exact .releaseTiming _ _
  · exact (State.Moves.releaseTiming _ s).trans (.retire _ _ _ _)
  all_goals exact .timingUnit s _ rfl rfl

/-- R132, R169: the grant is made without HOLD only. -/
theorem State.Moves.grantTiming : State.Moves (fun _ => True) s s.grantTiming := by
  unfold State.grantTiming
  split
  · exact .refl _ _
  next i pick =>
    have run : s.hold = false := by
      unfold State.timingPick at pick
      split at pick
      next free =>
        rw [Bool.and_eq_true, Bool.not_eq_true'] at free
        exact free.2
      · cases pick
    have grant : State.Moves (Eq i) s { s with timing := { s.timing with owner := some i, ptr := i } } :=
      .unseen rfl rfl rfl rfl rfl rfl (.same rfl) fun on => by simp [run] at on
    refine ((grant.trans ?_).trans (.beginUnit _ _)).mono fun _ _ => trivial
    exact .modLane (.same rfl rfl rfl rfl)

/-! ## The Mix Engines -/

/-- A Mix Engine goes on with its unit for its lane. -/
theorem State.Moves.mixUnit (L : LaneId → Prop) (e : MixId) {m : MixEngine} (owner : m.owner = (s.mixEng e).owner) :
    State.Moves L s (s.setMix e m) := .setMix L s e m fun _ _ own => by rwa [owner] at own

theorem State.Moves.computeBlock (L : LaneId → Prop) (e : MixId) (l : Lane) (off k : Nat)
    (samples : List (BitVec 16)) (runs : List (List (BitVec 16))) :
    State.Moves L s (s.computeBlock e l off k samples runs) := .mixUnit _ _ _ rfl

theorem State.Moves.clipsRead (L : LaneId → Prop) (e : MixId) (runs : List (List Byte)) :
    State.Moves L s (s.clipsRead e runs) := by
  unfold State.clipsRead
  dsimp only
  repeat' split
  · exact .refl _ _
  · exact .refl _ _
  · exact .computeBlock _ _ _ _ _ _ _ _
  · exact .refl _ _

theorem State.Moves.mixFails (e : MixId) (i : LaneId) : State.Moves (Eq i) s (s.mixFails e i) :=
  iteInduction (fun _ => .releaseMix _ _ _) fun _ => (State.Moves.releaseMix _ s e).trans (.failRecord _ _ _)

theorem State.Moves.clipsFailed (e : MixId) : State.Moves (s.MixLane e) s (s.clipsFailed e) := by
  unfold State.clipsFailed
  split
  · exact .refl _ _
  next i own => exact iteInduction (fun _ => (State.Moves.mixFails _ _ _).byOwner own) fun _ => .refl _ _

theorem State.Moves.toWaitData (i : LaneId) :
    State.Moves (Eq i) s (s.modLane i fun l => { l with state := .waitData, io := .idle }) := .modLane (.toIdle _ _ _)

theorem State.Moves.afterBlock (i : LaneId) (f : Nat) (ns : List NoteKind) :
    State.Moves (Eq i) s (s.afterBlock i f ns) := by
  unfold State.afterBlock
  dsimp only
  repeat' split
  · exact .refl _ _
  · exact .refl _ _
  · exact .retire _ _ _ _
  · exact .retireDone _ _
  · exact ((State.Moves.toWaitData _ _).trans (.judgeHead _ _)).trans (.prefetch _ _)

theorem Lane.Moves.completeBlock (hold : Bool) (l : Lane) (k : Nat) (ns : List NoteKind) :
    Lane.Moves hold l (l.completeBlock k ns) := by
  have pop : Lane.Moves hold l
      { l with
        mixPos := l.mixPos + k
        frmTotal := satAdd l.frmTotal k
        pf := l.pf.popHead
        table := l.table.filter (fun e => !e.finished (l.mixPos + k)) } :=
    .of Lane.NoteBitsInRange.record .kept (.popHead hold l.pf) fun _ => id
  exact (pop.trans (.withEx (f := fun x => { x with progress := x.progress + k }) _ _ fun _ => id)).trans (.credit _ _ _)

/-- R91: the block is complete after its write, or there is none. -/
theorem State.Moves.blockWritten (e : MixId) :
    s.blockWritten e = s ∨ ∃ a b, State.Moves (s.MixLane e) (s.put (.accepted a b)) (s.blockWritten e) := by
  unfold State.blockWritten
  dsimp only
  split
  · exact .inl rfl
  next i own =>
    split
    next off k _ b _ _ =>
      split
      · refine .inr ⟨outputAddr (s.lane i) b off, mixedBytes (s.mixEng e).acc, State.Moves.byOwner (i := i) ?_ own⟩
        generalize put : s.put (.accepted (outputAddr (s.lane i) b off) (mixedBytes (s.mixEng e).acc)) = t
        have lane : (t.releaseMix e).lane i = s.lane i := by rw [← put]; rfl
        exact (((State.Moves.releaseMix _ _ e).trans (.setLane (lane.symm ▸ .completeBlock _ _ k _))).trans
          (.freeClips _ _ _)).trans (.afterBlock _ _ _ _)
      · exact .inl rfl
    all_goals exact .inl rfl

theorem State.Moves.blockRefused (e : MixId) : State.Moves (s.MixLane e) s (s.blockRefused e) := by
  unfold State.blockRefused
  dsimp only
  split
  · exact .refl _ _
  next i own =>
    split
    · exact iteInduction (fun _ => ((State.Moves.putTorn _ _ _ _).trans (.mixFails _ _ _)).byOwner own) fun _ => .refl _ _
    all_goals exact .refl _ _

/-- R88, R133, R169: the grant is made without HOLD only. -/
theorem State.Moves.grantMix : State.Moves (fun _ => True) s s.grantMix := by
  unfold State.grantMix
  split
  next e i _ pick =>
    have run : s.hold = false := by
      unfold State.mixPick at pick
      split at pick
      · cases pick
      next free => exact Bool.not_eq_true _ ▸ free
    have grant : State.Moves (Eq i) s { s with mixPtr := i } :=
      .unseen rfl rfl rfl rfl rfl rfl (.same rfl) fun on => by simp [run] at on
    have working := State.Moves.modLane (s := { s with mixPtr := i }) (i := i)
      (f := fun l => { l with state := .working }) (.same rfl rfl rfl rfl)
    refine ((grant.trans working).trans ?_).mono fun _ _ => trivial
    unfold State.beginMix
    dsimp only
    generalize ({ s with mixPtr := i } : State).modLane i _ = t at *
    have begun : State.Moves (Eq i) t
        (t.setMix e { owner := some i, view := (t.lane i).table, acc := [], phase := .reading }) :=
      .setMix _ _ _ _ fun on => by
        have := State.hold_of_dev (grant.trans working).dev
        simp [this, run] at on
    repeat' split
    · exact begun
    · exact begun.trans (.computeBlock _ _ _ _ _ _ _ _)
    · exact begun
  all_goals exact .refl _ _

end

end Sys2Proof.Machine
end

section
/-! Write sequences, notices, failures off the link and the Command Port as moves; then every command at once, and the
laws that follow: O2, O5, O10, O12 and O13. -/

namespace Sys2Proof.Machine

open Sys2Proof

/-! ## Write sequences -/

section
variable (s : State) (i : LaneId)

theorem Lane.headWrite_begun {l : Lane} {q : WriteSeq} {k : WriteKind} {a : Addr} {b : List Byte}
    (h : l.headWrite = some (q, k, a, b)) : q.begun = true := by
  unfold Lane.headWrite at h
  repeat' split at h
  all_goals simp_all

theorem State.Moves.teardownRefused {q : WriteSeq} (a : Addr) (b : List Byte) (io : (s.lane i).io = .seq q) :
    State.Moves (Eq i) s (s.teardownRefused i q a b) :=
  (State.Moves.putTorn _ _ _ _).trans (.popStep (q := { q with failed := true }) io rfl rfl)

theorem State.Moves.goesOnRefused {q : WriteSeq} (a : Addr) (b : List Byte) (io : (s.lane i).io = .seq q) :
    State.Moves (Eq i) s (((s.put (.torn a b)).modLane i fun l => { l with haltReason := .hostAccess }).popStep i q) := by
  have halted : State.Moves (Eq i) s ((s.put (.torn a b)).modLane i fun l => { l with haltReason := .hostAccess }) :=
    (State.Moves.putTorn _ _ _ _).trans (.modLane (.same rfl rfl rfl rfl))
  exact halted.trans (.popStep (p := q) (by simpa using io) rfl rfl)

theorem State.Moves.haltUnwritten {q : WriteSeq} {r : RecResult} (accepted : Bool) (io : (s.lane i).io = .seq q)
    (begun : q.begun = true) (notes : (s.lane i).NoteBitsInRange → NotesInRange r.notes) :
    State.Moves (Eq i) s (s.haltUnwritten i r accepted) := by
  have owed : State.Moves (Eq i) s (s.modLane i fun l => { l with cur := l.cur.map fun c => c.unwritten r accepted }) := by
    refine .modLane (.setCur _ _ fun fits c hc => ?_)
    obtain ⟨c', hc', rfl⟩ := Option.map_eq_some_iff.mp hc
    refine ⟨by rw [Record.unwritten_ex]; exact (fits.record c' hc').1, fun o ho => ?_⟩
    rw [Record.unwritten_eq] at ho
    split at ho
    · cases ho
    · rw [← Option.some.inj ho]
      exact notes fits
  unfold State.haltUnwritten
  dsimp only
  split
  · exact owed.trans (.modLane (.of Lane.NoteBitsInRange.record .idle (.refl _ _) fun _ => id))
  · split
    · exact owed
    · refine (owed.trans (.modLane (.same rfl rfl rfl rfl))).trans (.startSeq _ _ _ _ _ _ (fun _ _ => ⟨q, ?_, begun⟩) ?_)
      · simpa using io
      · exact fun _ _ hr => by simp [SeqKind.result] at hr

theorem State.Moves.retireRefused {q : WriteSeq} {k : WriteKind} {a : Addr} {b : List Byte} {r : RecResult}
    (head : (s.lane i).headWrite = some (q, k, a, b)) (kind : q.kind = .retire r) (accepted : Bool) :
    State.Moves (Eq i) s ((s.put (.torn a b)).haltUnwritten i r accepted) :=
  (State.Moves.putTorn _ _ _ _).trans (.haltUnwritten _ _ accepted (Lane.headWrite_io head) (Lane.headWrite_begun head)
    fun h => h.result (Lane.headWrite_io head) (by rw [kind]; rfl))

theorem State.Moves.statusRefused : State.Moves (Eq i) s (s.statusRefused i) := by
  unfold State.statusRefused
  split
  all_goals try exact .refl _ _
  all_goals
    next head =>
      split
      next kind => exact .retireRefused _ _ head kind _
      · exact .teardownRefused _ _ _ _ (Lane.headWrite_io head)
      all_goals exact .refl _ _

theorem State.Moves.resumePointRefused : State.Moves (Eq i) s (s.resumePointRefused i) := by
  unfold State.resumePointRefused
  split
  next head =>
    split
    next kind => exact .retireRefused _ _ head kind _
    · exact .teardownRefused _ _ _ _ (Lane.headWrite_io head)
    all_goals exact .refl _ _
  all_goals exact .refl _ _

theorem State.Moves.restRefused : State.Moves (Eq i) s (s.restRefused i) := by
  unfold State.restRefused
  split
  next head =>
    exact iteInduction (fun _ => .teardownRefused _ _ _ _ (Lane.headWrite_io head))
      fun _ => .goesOnRefused _ _ _ _ (Lane.headWrite_io head)
  all_goals exact .refl _ _

theorem State.Moves.linkRefused : State.Moves (Eq i) s (s.linkRefused i) := by
  unfold State.linkRefused
  split
  next q _ a b _ =>
    have halted : State.Moves (Eq i) s ((s.put (.torn a b)).modLane i
        fun l => { (l.withEx fun _ => ExecState.zero) with io := .idle }) :=
      (State.Moves.putTorn _ s a b).trans (.modLane ((Lane.Moves.withEx (f := fun _ => ExecState.zero) _ _
        fun _ _ => notesInRange_zero).trans (.toIdle _ _ (s.lane i).state)))
    exact iteInduction (fun _ => iteInduction (fun _ => halted) fun _ => halted.trans (.failRecord _ _ _))
      fun _ => .refl _ _
  all_goals exact .refl _ _

theorem State.Moves.stopRefused : State.Moves (Eq i) s (s.stopRefused i) := by
  unfold State.stopRefused
  split
  next head => exact iteInduction (fun _ => .goesOnRefused _ _ _ _ (Lane.headWrite_io head)) fun _ => .refl _ _
  all_goals exact .refl _ _

theorem State.Moves.teardownWriteRefused : State.Moves (Eq i) s (s.teardownWriteRefused i) := by
  unfold State.teardownWriteRefused
  split
  next head => exact iteInduction (fun _ => .teardownRefused _ _ _ _ (Lane.headWrite_io head)) fun _ => .refl _ _
  · exact .refl _ _

theorem State.Moves.writeRefused : State.Moves (Eq i) s (s.writeRefused i) := by
  unfold State.writeRefused
  split
  · exact .refl _ _
  next head =>
    dsimp only
    split
    · exact .teardownRefused _ _ _ _ (Lane.headWrite_io head)
    · exact .statusRefused _ _
    · exact .statusRefused _ _
    · exact .resumePointRefused _ _
    · exact .linkRefused _ _
    · exact .goesOnRefused _ _ _ _ (Lane.headWrite_io head)

theorem Lane.Moves.wrote (hold : Bool) (l : Lane) (q : WriteSeq) (k : WriteKind) : Lane.Moves hold l (l.wrote q k) := by
  cases k with
  | results => exact .refl _ _
  | status => exact .refl _ _
  | resumePoint t =>
    refine .of (fun h c hc => ?_) .kept (.refl _ _) fun _ => id
    change c ∈ (if q.kind.finishesRecord then none else l.cur) at hc
    split at hc
    · simp at hc
    · exact h.record c hc
  | restState r => exact .same rfl rfl rfl rfl

/-- R111: the sequence goes on after its write, or there is none. -/
theorem State.Moves.writeAccepted :
    s.writeAccepted i = s ∨ ∃ a b, State.Moves (Eq i) (s.put (.accepted a b)) (s.writeAccepted i) := by
  unfold State.writeAccepted
  split
  · exact .inl rfl
  next q k a b head =>
    refine .inr ⟨a, b, State.Moves.trans (.modLane (.wrote _ _ q k)) (.popStep (p := q) ?_ rfl rfl)⟩
    rw [State.lane_modLane_same]
    cases k <;> exact Lane.headWrite_io head

theorem State.Moves.freeCtr (L : LaneId → Prop) (n : Nat) : State.Moves L s { s with freeCtr := n } :=
  .unseen rfl rfl rfl rfl rfl rfl (.same rfl) fun _ => .same rfl rfl rfl

theorem State.Moves.teardown : State.Moves (Eq i) s (s.teardown i) := by
  unfold State.teardown
  dsimp only
  split
  next ready =>
    obtain ⟨-, -, run⟩ := ready
    have gaveBack : State.Moves (Eq i) s (s.modLane i Lane.giveBack) :=
      .modLane (.of Lane.NoteBitsInRange.record .kept (.discard _ _) fun _ => id)
    have freed := (gaveBack.trans (.freeCues _ _ (s.lane i).store.length)).trans (.freeClips _ _ (s.lane i).table.length)
    refine (freed.trans (.freeCtr _ _ _)).trans (.startSeq _ _ _ _ _ _ (fun on => ?_) fun _ _ hr => by simp [SeqKind.result] at hr)
    have still := State.hold_of_dev freed.dev
    rw [run] at still
    exact absurd (still.symm.trans on) (by decide)
  · exact .refl _ _

/-! ## Notices -/

theorem State.Moves.leaveWait : State.Moves (Eq i) s (s.leaveWait i) := by
  unfold State.leaveWait
  repeat' split
  · exact .startRead _ _ _ _
  · exact .resumeNow _ _
  · exact .skipNow _ _
  · exact .refl _ _

theorem State.Moves.slotEnded (own : Bool) : State.Moves (Eq i) s (s.slotEnded i own) := by
  unfold State.slotEnded
  repeat' split
  · exact .finishSeq _ _ _ _
  · exact .refl _ _
  · exact .refl _ _
  · exact .leaveWait _ _
  · exact .runSeq _ _

theorem State.Moves.askMsi (L : LaneId → Prop) : State.Moves L s s.askMsi := by
  unfold State.askMsi
  dsimp only
  split
  next on =>
    refine .unseen rfl rfl rfl rfl rfl rfl ⟨[_], rfl, fun off => ?_⟩ fun _ => .same rfl rfl rfl
    rw [off, Bool.and_false] at on
    exact absurd on (by decide)
  · exact .unseen rfl rfl rfl rfl rfl rfl (.same rfl) fun _ => .same rfl rfl rfl

theorem State.Moves.pend (L : LaneId → Prop) (p : BitVec 16) : State.Moves L s { s with pend := p } :=
  .unseen rfl rfl rfl rfl rfl rfl (.same rfl) fun _ => .same rfl rfl rfl

theorem State.Moves.raisePend (L : LaneId → Prop) : State.Moves L s (s.raisePend i) :=
  iteInduction (fun _ => (State.Moves.pend s L _).trans (.askMsi _ _)) fun _ => .pend _ _ _

theorem State.Moves.slotPosted (w : SlotWrite) : State.Moves (Eq i) s (s.slotPosted i w) := by
  have freed : State.Moves (Eq i) s (s.modLane i fun l => { l with slot := none }) := .modLane (.same rfl rfl rfl rfl)
  refine State.Moves.trans ?_ (.slotEnded _ _ _)
  exact iteInduction (fun _ => freed.trans (.raisePend _ _ _)) fun _ => freed

/-- R144, R146: what follows the slot write, or there is none. -/
theorem State.Moves.slotAccepted :
    s.slotAccepted i = s ∨ ∃ a b, State.Moves (Eq i) (s.put (.accepted a b)) (s.slotAccepted i) := by
  unfold State.slotAccepted
  split
  · exact .inl rfl
  · exact .inr ⟨_, _, .slotPosted _ _ _⟩

theorem Lane.Moves.slotFailed (hold : Bool) (l : Lane) (own : Bool) : Lane.Moves hold l (l.slotFailed own) := by
  refine .of Lane.NoteBitsInRange.record ?_ (.refl _ _) fun _ => id
  change LaneIO.MovesTo hold l (match l.io with
    | .seq q => .seq { q with failed := q.failed || (own && decide (q.kind = .teardown)) }
    | .idle => .idle
    | .read r b => .read r b)
  have same := LaneIO.MovesTo.kept (hold := hold) (l := l)
  cases io : l.io with
  | seq q => exact .seq _ (fun _ begun => ⟨q, io, begun⟩) fun h r hr => h.result io hr
  | idle => exact .idle
  | read r b => rwa [io] at same

theorem State.Moves.slotRefused : State.Moves (Eq i) s (s.slotRefused i) := by
  unfold State.slotRefused
  split
  · exact .refl _ _
  · exact State.Moves.trans (.modLane (.slotFailed _ _ _)) (.slotPosted _ _ _)

/-! ## Transfers that fail (R167) -/

theorem FailStep.moves {s t : State} {i : LaneId} (h : FailStep s i t) : State.Moves (Eq i) s t := by
  have only {o : Option LaneId} (own : o = some i) (j : LaneId) (h : o = some j) : i = j :=
    Option.some.inj (own.symm.trans h)
  cases h with
  | segment own => exact (State.Moves.segmentRefused s).mono (only own)
  | compare own => exact (State.Moves.compareFailed s).mono (only own)
  | clips e own => exact (State.Moves.clipsFailed s e).mono (only own)
  | output e own => exact (State.Moves.blockRefused s e).mono (only own)
  | block => exact .blockFailed _ _
  | stale => exact .staleEnded _ _
  | poll => exact .pollFailed _ _
  | entry => exact .entryFailed _ _
  | fetch => exact .fetchFailed _ _
  | intake => exact .intakeFailed _ _
  | slot => exact .slotRefused _ _
  | write => exact .writeRefused _ _

theorem State.Moves.failUpTo (n : Nat) : State.Moves (Eq i) s (s.failUpTo n i) := by
  induction n generalizing s with
  | zero => exact .refl _ _
  | succ n ih =>
    unfold State.failUpTo
    split
    next fails => exact (State.failOne_step fails).moves.trans (ih _)
    · exact .refl _ _

theorem State.Moves.onLink {L : LaneId → Prop} {s t : State} (u : State) {i : LaneId} (h : State.Moves L s t) (hi : L i) :
    State.Moves L s (u.onLink i t) :=
  iteInduction (fun _ => h) fun _ => h.trans ((State.Moves.failUpTo _ _ _).byOwner hi)

theorem State.Moves.onLinkOf {L : LaneId → Prop} {s t : State} (u : State) {o : Option LaneId} (h : State.Moves L s t)
    (ho : ∀ i, o = some i → L i) : State.Moves L s (u.onLinkOf o t) := by
  cases o with
  | none => exact h
  | some i => exact h.onLink u (ho i rfl)

theorem State.Moves.foldl {L : LaneId → Prop} {f : State → LaneId → State} (h : ∀ s i, State.Moves L s (f s i))
    (is : List LaneId) : State.Moves L s (is.foldl f s) := by
  induction is generalizing s with
  | nil => exact .refl _ _
  | cons i is ih => exact (h s i).trans (ih _)

theorem State.Moves.onLinkAll {s t : State} (u : State) (h : State.Moves (fun _ => True) s t) :
    State.Moves (fun _ => True) s (u.onLinkAll t) :=
  iteInduction (fun _ => h) fun _ => h.trans (.foldl _ (fun _ _ => (State.Moves.failUpTo _ _ _).byOwner trivial) _)

/-! ## The INSPECT and the Command Port -/

theorem State.Moves.port (L : LaneId → Prop) (p : CmdPort) : State.Moves L s { s with port := p } :=
  .unseen rfl rfl rfl rfl rfl rfl (.same rfl) fun _ => .same rfl rfl rfl

theorem State.Moves.inspectRead (L : LaneId → Prop) (b : BitVec 96) : State.Moves L s (s.inspectRead b) := by
  unfold State.inspectRead
  repeat' split
  · exact .refl _ _
  · exact .refl _ _
  · exact .port _ _ _
  · exact .port _ _ _

theorem State.Moves.inspectReadFailed (L : LaneId → Prop) : State.Moves L s s.inspectReadFailed := by
  unfold State.inspectReadFailed
  repeat' split
  · exact .refl _ _
  · exact .refl _ _
  · exact .port _ _ _

/-- R130: the INSPECT ends after its image, or there is none. -/
theorem State.Moves.inspectWritten (L : LaneId → Prop) :
    s.inspectWritten = s ∨ ∃ a b, State.Moves L (s.put (.accepted a b)) s.inspectWritten := by
  unfold State.inspectWritten
  repeat' split
  · exact .inl rfl
  · exact .inl rfl
  · exact .inr ⟨_, _, .port _ _ _⟩

theorem State.Moves.inspectRefused (L : LaneId → Prop) : State.Moves L s s.inspectRefused := by
  unfold State.inspectRefused
  repeat' split
  · exact .refl _ _
  · exact .refl _ _
  · exact (State.Moves.putTorn _ _ _ _).trans (.port _ _ _)

theorem State.Moves.onLinkInspect {L : LaneId → Prop} {s t : State} (u : State) (h : State.Moves L s t) :
    State.Moves L s (u.onLinkInspect t) :=
  iteInduction (fun _ => h) fun _ => (h.trans (.inspectReadFailed _ _)).trans (.inspectRefused _ _)

theorem State.Moves.continueNow : State.Moves (Eq i) s (s.continueNow i) := by
  unfold State.continueNow
  dsimp only
  repeat' split
  · exact .modLane (.same rfl rfl rfl rfl)
  · exact .startRead _ _ _ _
  · exact .modLane (.same rfl rfl rfl rfl)
  · exact .modLane (.same rfl rfl rfl rfl)

theorem State.Moves.unhalted : State.Moves (Eq i) s (s.modLane i fun l => { l with haltReason := .none }) :=
  .modLane (.same rfl rfl rfl rfl)

theorem State.Moves.resumeAction : State.Moves (Eq i) s (s.resumeAction i) :=
  iteInduction (fun _ => (State.Moves.unhalted s i).trans (.modLane (.same rfl rfl rfl rfl)))
    fun _ => (State.Moves.unhalted s i).trans (.resumeNow _ _)

theorem State.Moves.skipAction : State.Moves (Eq i) s (s.skipAction i) :=
  iteInduction (fun _ => (State.Moves.unhalted s i).trans (.modLane (.same rfl rfl rfl rfl)))
    fun _ => (State.Moves.unhalted s i).trans (.skipNow _ _)

theorem LaneIO.inFlightOnly_movesTo (hold : Bool) (l : Lane) : LaneIO.MovesTo hold l l.io.inFlightOnly := by
  have same := LaneIO.MovesTo.kept (hold := hold) (l := l)
  cases io : l.io with
  | idle => exact .idle
  | read r issued =>
    cases issued
    · exact .idle
    · rwa [io] at same
  | seq q => exact iteInduction (fun _ => by rwa [io] at same) fun _ => .idle

theorem State.Moves.abandonLane : State.Moves (Eq i) s (s.abandonLane i) := by
  refine .modLane (.of Lane.NoteBitsInRange.record (LaneIO.inFlightOnly_movesTo _ _) (.endRead _ _ ?_) fun _ poll => ?_)
  · exact BlockRead.makeStale_ne_live _
  · change (if (s.lane i).gate.poll = .outstanding then PollState.outstanding else .none) = .outstanding at poll
    split at poll
    · assumption
    · cases poll

theorem State.Moves.perform (a : Action) : State.Moves (Eq i) s (s.perform i a) := by
  unfold State.perform
  cases a with
  | start =>
    refine State.Moves.onLink _ (State.Moves.trans (.modLane ?_) (.startRead _ _ _ _)) rfl
    exact .of (fun _ _ hc => by simp at hc) .kept (.refl _ _) fun _ => id
  | continueLane => exact (State.Moves.continueNow _ _).onLink _ rfl
  | resume => exact (State.Moves.resumeAction _ _).onLink _ rfl
  | skip => exact (State.Moves.skipAction _ _).onLink _ rfl
  | abandon => exact .abandonLane _ _
  | inspect => exact (State.Moves.port _ _ _).onLinkInspect _

theorem State.Moves.laneCmd (code : BitVec 4) : State.Moves (Eq i) s (s.laneCmd i code) := by
  unfold State.laneCmd
  split
  · exact .port _ _ _
  · split
    · exact .port _ _ _
    · dsimp only
      exact iteInduction (fun _ => (State.Moves.port _ _ _).trans (.perform _ _ _)) fun _ => .port _ _ _

theorem State.Moves.clipsTimeout (e : MixId) : State.Moves (Eq i) s (s.clipsTimeout i e) := by
  unfold State.clipsTimeout
  split
  next own =>
    exact ((State.Moves.clipsFailed s e).mono fun j h => Option.some.inj (own.symm.trans h)).onLink _ rfl
  · exact .refl _ _

theorem State.Moves.readTimeout (k : LaneReadKind) : State.Moves (Eq i) s (s.readTimeout (.lane k i)) := by
  unfold State.readTimeout
  cases k with
  | entry => exact (State.Moves.entryFailed _ _).onLink _ rfl
  | record => exact (State.Moves.fetchFailed _ _).onLink _ rfl
  | poll => exact (State.Moves.pollFailed _ _).onLink _ rfl
  | intake => exact (State.Moves.intakeFailed _ _).onLink _ rfl
  | compare =>
    dsimp only
    split
    next own =>
      have only (j : LaneId) (h : s.timing.owner = some j) : i = j := Option.some.inj (own.symm.trans h)
      exact ((State.Moves.compareFailed s).mono only).onLinkOf _ fun j h => only j (State.unitOwner_some h).1
    · exact .refl _ _
  | clipSamples => exact (State.Moves.clipsTimeout _ _ _).trans (.clipsTimeout _ _ _)
  | block =>
    refine State.Moves.onLink _ ?_ rfl
    exact iteInduction (fun _ => .staleEnded _ _) fun _ => .blockFailed _ _

/-! ## Registers and HOLD -/

theorem State.Moves.clearPend (v : BitVec 32) : State.Moves (Eq i) s (s.clearPend v i) := by
  unfold State.clearPend
  refine iteInduction (fun _ => (State.Moves.pend _ _ _).trans (.modLane ?_)) fun _ => .refl _ _
  unfold Lane.releaseDeferred
  split
  · exact .same rfl rfl rfl rfl
  all_goals exact .refl _ _

theorem Lane.Moves.run {l m : Lane} (notes : l.NoteBitsInRange → m.NoteBitsInRange)
    (pf : Prefetch.Moves false l.pf m.pf) : Lane.Moves false l m :=
  ⟨notes, pf, nofun, nofun, nofun⟩

theorem State.Moves.wakeIO (run : s.hold = false) : State.Moves (Eq i) s (s.wakeIO i) := by
  unfold State.wakeIO
  split
  · refine .modLane ?_
    rw [run]
    exact .run (fun h => ⟨h.1, by simp [LaneIO.seq?]⟩) (.refl _ _)
  · exact .refl _ _
  next q io =>
    refine iteInduction (fun _ => .refl _ _) fun _ => State.Moves.trans (.modLane ?_) (.runSeq _ _)
    rw [run]
    refine .run (fun h => ⟨h.1, fun q' hq r hr => ?_⟩) (.refl _ _)
    obtain rfl : { q with begun := true } = q' := Option.some.inj hq
    exact h.result io hr
  · exact .refl _ _

theorem State.Moves.wake (run : s.hold = false) : State.Moves (Eq i) s (s.wake i) := by
  have io := State.Moves.wakeIO s i run
  have still := (State.hold_of_dev io.dev).trans run
  refine (io.trans (.modLane ?_)).trans (.prefetch _ _)
  rw [still]
  unfold Lane.wakePoll
  split
  · exact .run id (.refl _ _)
  · exact .refl _ _

theorem State.Moves.wakeAll (run : s.hold = false) (is : List LaneId) :
    State.Moves (fun _ => True) s (is.foldl State.wake s) := by
  induction is generalizing s with
  | nil => exact .refl _ _
  | cons i is ih =>
    have woken := State.Moves.wake s i run
    exact (woken.byOwner trivial).trans (ih _ ((State.hold_of_dev woken.dev).trans run))

end

end Sys2Proof.Machine
end

section
/-! Every command at once: what it may do beyond its own registers, and the laws that follow from it, O2, O5, O10, O12
and O13. -/

namespace Sys2Proof.Machine

open Sys2Proof

/-! ## Every command -/

/-- The lanes that a command may change: the one it names, or any when it names none. -/
def Named (c : Instr) (j : LaneId) : Prop := ∀ i, addressee c = some i → i = j

/-- The commands that end a write which the link has taken. -/
def acceptsWrite (c : Instr) : Prop :=
  c = .segmentWriteAccepted ∨ (∃ e, c = .mixOutputWriteAccepted e) ∨ (∃ i, c = .retirementWriteAccepted i)
    ∨ (∃ i, c = .noticeSlotWriteAccepted i) ∨ c = .inspectDone

/-- What a command does: it moves, after a write that the link has taken or without one; or it is one of those that
change HOLD, NOTICE_MASK or DIR_BASE, or reset the part. -/
inductive CommandStep (c : Instr) (s : State) : State → Prop where
  | moves {t : State} (m : State.Moves (Named c) s t) : CommandStep c s t
  | written {t : State} (a : Addr) (b : List Byte) (accepts : acceptsWrite c)
      (m : State.Moves (Named c) (s.put (.accepted a b)) t) : CommandStep c s t
  | woken {t : State} (clear : c = .holdClear) (m : State.Moves (fun _ => True) { s with dev := .run } t) :
      CommandStep c s t
  | held (d : DevState) (keeps : d ≠ .run) : CommandStep c s { s with dev := d }
  | mask (v : BitVec 32) (write : c = .noticeMaskWrite v) : CommandStep c s (s.writeMask v)
  | dirBase (half : DirHalf) (v : BitVec 32) (write : c = .dirBaseWrite half v) : CommandStep c s (s.writeDirBase half v)
  | reset (device : c = .devCtrlReset) : CommandStep c s s.deviceReset
  | functionReset (function : c = .functionLevelReset ∨ c = .powerOn) : CommandStep c s s.functionReset

theorem CommandStep.byLane {c : Instr} {s t : State} {i : LaneId} (h : State.Moves (Eq i) s t)
    (name : addressee c = some i) : CommandStep c s t :=
  .moves (h.mono fun _ e _ name' => (Option.some.inj (name.symm.trans name')).symm.trans e)

theorem CommandStep.onLink {c : Instr} {s t : State} {i : LaneId} (h : State.Moves (Eq i) s t)
    (name : addressee c = some i) : CommandStep c s (s.onLink i t) := .byLane (h.onLink s rfl) name

theorem CommandStep.anyLane {c : Instr} {s t : State} {L : LaneId → Prop} (h : State.Moves L s t)
    (name : addressee c = none) : CommandStep c s t :=
  .moves (h.mono fun _ _ _ name' => by simp [name] at name')

theorem CommandStep.onLinkOf {c : Instr} {s t : State} {L : LaneId → Prop} {o : Option LaneId}
    (h : State.Moves L s t) (name : addressee c = none) : CommandStep c s (s.onLinkOf o t) :=
  .anyLane ((h.mono fun _ _ => trivial).onLinkOf (L := fun _ => True) s fun _ _ => trivial) name

theorem CommandStep.same {c : Instr} (s : State) : CommandStep c s s := .moves (.refl _ _)

/-- A command that ends a write: the link has taken it, or there is none. -/
theorem CommandStep.ofWritten {c : Instr} {s t : State} {i : LaneId} (accepts : acceptsWrite c)
    (h : t = s ∨ ∃ a b, State.Moves (Eq i) (s.put (.accepted a b)) t) (name : addressee c = some i) :
    CommandStep c s (s.onLink i t) := by
  have sub (j : LaneId) (e : i = j) : Named c j := fun _ name' => (Option.some.inj (name.symm.trans name')).symm.trans e
  obtain rfl | ⟨a, b, m⟩ := h
  · exact .onLink (.refl _ _) name
  · exact .written a b accepts ((m.onLink s rfl).mono sub)

theorem CommandStep.ofUnitWritten {c : Instr} {s t : State} {L : LaneId → Prop} {o : Option LaneId}
    (accepts : acceptsWrite c) (h : t = s ∨ ∃ a b, State.Moves L (s.put (.accepted a b)) t) (name : addressee c = none) :
    CommandStep c s (s.onLinkOf o t) := by
  obtain rfl | ⟨a, b, m⟩ := h
  · exact .onLinkOf (L := L) (.refl _ _) name
  · exact .written a b accepts (((m.mono fun _ _ => trivial).onLinkOf (L := fun _ => True) s fun _ _ => trivial).mono
      fun _ _ _ name' => by simp [name] at name')

theorem exec_step (c : Instr) (s : State) : ∃ t, exec c s = .next t ∧ CommandStep c s t := by
  cases c with
  | start i => exact ⟨_, rfl, .byLane (.laneCmd s i _) rfl⟩
  | continueLane i => exact ⟨_, rfl, .byLane (.laneCmd s i _) rfl⟩
  | resume i => exact ⟨_, rfl, .byLane (.laneCmd s i _) rfl⟩
  | skip i => exact ⟨_, rfl, .byLane (.laneCmd s i _) rfl⟩
  | abandon i => exact ⟨_, rfl, .byLane (.laneCmd s i _) rfl⟩
  | inspect i => exact ⟨_, rfl, .byLane (.laneCmd s i _) rfl⟩
  | refusedAction i code => exact ⟨_, rfl, .byLane (.laneCmd s i code) rfl⟩
  | noticePendWrite v =>
    exact ⟨_, rfl, .anyLane ((State.Moves.foldl s (fun _ _ => (State.Moves.clearPend _ _ v).byOwner trivial) _).onLinkAll s)
      rfl⟩
  | noticeMaskWrite v => exact ⟨_, rfl, .mask v rfl⟩
  | dirBaseWrite half v => exact ⟨_, rfl, .dirBase half v rfl⟩
  | holdSet => exact ⟨_, rfl, iteInduction (fun _ => .same s) fun _ => .held .holding (by decide)⟩
  | holdClear =>
    refine ⟨_, rfl, iteInduction (fun on => .woken rfl (State.Moves.onLinkAll s ?_)) fun _ => .same s⟩
    rw [State.holdCleared, if_pos on]
    exact .wakeAll _ rfl _
  | devCtrlReset => exact ⟨_, rfl, .reset rfl⟩
  | registerWriteIgnored offset n v => exact ⟨_, rfl, .same s⟩
  | functionLevelReset => exact ⟨_, rfl, .functionReset (.inl rfl)⟩
  | powerOn => exact ⟨_, rfl, .functionReset (.inr rfl)⟩
  | entryReadComplete i a => exact ⟨_, rfl, .onLink (.entryRead s i a) rfl⟩
  | entryReadFail i => exact ⟨_, rfl, .onLink (.entryFailed s i) rfl⟩
  | recordHeaderReadComplete i b => exact ⟨_, rfl, .onLink (.headerRead s i b) rfl⟩
  | recordBodyReadComplete i b => exact ⟨_, rfl, .onLink (.bodyRead s i b) rfl⟩
  | recordFetchReadFail i => exact ⟨_, rfl, .onLink (.fetchFailed s i) rfl⟩
  | gatePollComplete i w => exact ⟨_, rfl, .onLink (.pollDone s i w) rfl⟩
  | gatePollFail i => exact ⟨_, rfl, .onLink (.pollFailed s i) rfl⟩
  | pollPhaseExpiry i =>
    refine ⟨_, rfl, iteInduction (fun h => .onLink (.endPoll s i fun on => ?_) rfl) fun _ => .same s⟩
    simp [h.2] at on
  | gateTimeout i => exact ⟨_, rfl, iteInduction (fun _ => .onLink (.failRecord s i _) rfl) fun _ => .same s⟩
  | readTimeout r =>
    cases r with
    | lane k i => exact ⟨_, rfl, .byLane (.readTimeout s i k) rfl⟩
    | inspectEntry => exact ⟨_, rfl, .moves (.inspectReadFailed s _)⟩
  | lateCompletion r => exact ⟨_, rfl, .same s⟩
  | intakeReadComplete i cues => exact ⟨_, rfl, .onLink (.intakeDone s i cues) rfl⟩
  | intakeReadFail i => exact ⟨_, rfl, .onLink (.intakeFailed s i) rfl⟩
  | timingEngineGrant => exact ⟨_, rfl, .onLinkOf (.grantTiming s) rfl⟩
  | mixEngineGrant => exact ⟨_, rfl, .onLinkOf (.grantMix s) rfl⟩
  | cueUnitEnd => exact ⟨_, rfl, .onLinkOf (.cueUnitEnds s) rfl⟩
  | clipUnitEnd => exact ⟨_, rfl, .onLinkOf (.clipUnitEnds s) rfl⟩
  | segmentWriteAccepted => exact ⟨_, rfl, .ofUnitWritten (.inl rfl) (State.Moves.segmentWritten s) rfl⟩
  | segmentWriteRefused => exact ⟨_, rfl, .onLinkOf (.segmentRefused s) rfl⟩
  | compareReadComplete b => exact ⟨_, rfl, .onLinkOf (.segmentCompared s b) rfl⟩
  | compareReadFail => exact ⟨_, rfl, .onLinkOf (.compareFailed s) rfl⟩
  | blockReadComplete i b => exact ⟨_, rfl, .onLink (.blockRead s i b) rfl⟩
  | blockReadFail i => exact ⟨_, rfl, .onLink (.blockFailed s i) rfl⟩
  | staleReadEnd i => exact ⟨_, rfl, .onLink (.staleEnded s i) rfl⟩
  | clipSampleReadComplete e runs => exact ⟨_, rfl, .onLinkOf (.clipsRead s (fun _ => True) e runs) rfl⟩
  | clipSampleReadFail e => exact ⟨_, rfl, .onLinkOf (.clipsFailed s e) rfl⟩
  | mixOutputWriteAccepted e => exact ⟨_, rfl, .ofUnitWritten (.inr (.inl ⟨e, rfl⟩)) (State.Moves.blockWritten s e) rfl⟩
  | mixOutputWriteRefused e => exact ⟨_, rfl, .onLinkOf (.blockRefused s e) rfl⟩
  | retirementWriteAccepted i =>
    exact ⟨_, rfl, .ofWritten (.inr (.inr (.inl ⟨i, rfl⟩))) (State.Moves.writeAccepted s i) rfl⟩
  | statusWriteRefused i => exact ⟨_, rfl, .onLink (.statusRefused s i) rfl⟩
  | resumePointWriteRefused i => exact ⟨_, rfl, .onLink (.resumePointRefused s i) rfl⟩
  | restStateWriteRefused i => exact ⟨_, rfl, .onLink (.restRefused s i) rfl⟩
  | linkResumePointRefused i => exact ⟨_, rfl, .onLink (.linkRefused s i) rfl⟩
  | stopResumePointRefused i => exact ⟨_, rfl, .onLink (.stopRefused s i) rfl⟩
  | teardownWriteRefused i => exact ⟨_, rfl, .onLink (.teardownWriteRefused s i) rfl⟩
  | noticeSlotWriteAccepted i =>
    exact ⟨_, rfl, .ofWritten (.inr (.inr (.inr (.inl ⟨i, rfl⟩)))) (State.Moves.slotAccepted s i) rfl⟩
  | noticeSlotWriteRefused i => exact ⟨_, rfl, .onLink (.slotRefused s i) rfl⟩
  | msiWriteRefused => exact ⟨_, rfl, .same s⟩
  | abandonTeardown i => exact ⟨_, rfl, .onLink (.teardown s i) rfl⟩
  | holdDrainComplete => exact ⟨_, rfl, iteInduction (fun _ => .held .held (by decide)) fun _ => .same s⟩
  | inspectEntryReadComplete b => exact ⟨_, rfl, .moves ((State.Moves.inspectRead s _ b).onLinkInspect s)⟩
  | inspectEntryReadFail => exact ⟨_, rfl, .moves (.inspectReadFailed s _)⟩
  | inspectDone =>
    refine ⟨_, rfl, ?_⟩
    obtain none | ⟨a, b, m⟩ := State.Moves.inspectWritten s (Named .inspectDone)
    · rw [none]
      exact .same s
    · exact .written a b (.inr (.inr (.inr (.inr rfl)))) m
  | inspectFailed => exact ⟨_, rfl, .moves (.inspectRefused s _)⟩

theorem CommandStep.of_exec {c : Instr} {s t : State} (h : exec c s = .next t) : CommandStep c s t := by
  obtain ⟨t', h', step⟩ := exec_step c s
  rw [h'] at h
  injection h with e
  exact e ▸ step

/-! ## The lanes -/

@[simp] theorem State.lane_writeMask (s : State) (v : BitVec 32) (i : LaneId) : (s.writeMask v).lane i = s.lane i := by
  unfold State.writeMask
  dsimp only
  split
  · rfl
  · exact State.lane_askMsi _ _

@[simp] theorem State.lane_writeDirBase (s : State) (half : DirHalf) (v : BitVec 32) (i : LaneId) :
    (s.writeDirBase half v).lane i = s.lane i := by
  unfold State.writeDirBase
  split <;> rfl

theorem State.lane_functionReset (s : State) (i : LaneId) : s.functionReset.lane i = Lane.reset :=
  State.lane_deviceReset s i

/-- A lane after a command: moved, or as after reset. -/
theorem CommandStep.lane {c : Instr} {s t : State} (h : CommandStep c s t) (i : LaneId) :
    (∃ hold, Lane.Moves hold (s.lane i) (t.lane i)) ∨ t.lane i = Lane.reset := by
  cases h with
  | moves m => exact .inl ⟨_, m.lanes i⟩
  | written a b accepts m => exact .inl ⟨_, m.lanes i⟩
  | woken clear m => exact .inl ⟨_, m.lanes i⟩
  | held d keeps => exact .inl ⟨true, .refl _ _⟩
  | mask v write => exact .inl ⟨true, by rw [State.lane_writeMask]; exact .refl _ _⟩
  | dirBase half v write => exact .inl ⟨true, by rw [State.lane_writeDirBase]; exact .refl _ _⟩
  | reset device => exact .inr (State.lane_deviceReset s i)
  | functionReset function => exact .inr (State.lane_functionReset s i)

/-- Settles O10: each move keeps the queue's laws. -/
theorem programmeQueuesKept : Obligations.ProgrammeQueuesKept := by
  intro c s t i sound h
  obtain ⟨hold, m⟩ | reset := (CommandStep.of_exec h).lane i
  · exact m.pf.sound sound
  · rw [reset]
    exact ⟨by decide, fun _ => by decide, fun _ _ _ => rfl⟩

/-- Settles O12: each move keeps bits 14 and 15 clear. -/
theorem noteBitsKept : Obligations.NoteBitsKept := by
  intro c s t i bits h
  obtain ⟨hold, m⟩ | reset := (CommandStep.of_exec h).lane i
  · exact m.notes bits
  · rw [reset]
    exact ⟨fun _ cur => (by cases cur), fun _ seq => (by cases seq)⟩

/-- Settles O5: a move leaves the lanes it is not for as they are. -/
theorem otherLanesKept : Obligations.OtherLanesKept := by
  intro c s t i j h name other
  have out : ¬ Named c j := fun all => other (all i name).symm
  cases CommandStep.of_exec h with
  | moves m => exact m.others j out
  | written a b accepts m => exact m.others j out
  | woken clear m => rw [clear] at name; cases name
  | held d keeps => rfl
  | mask v write => exact State.lane_writeMask _ _ _
  | dirBase half v write => exact State.lane_writeDirBase _ _ _ _
  | reset device => rw [device] at name; cases name
  | functionReset function => obtain rfl | rfl := function <;> cases name

/-! ## HOLD (R169) -/

/-- No command begins what R169 lists from s to t: on lane i, and of the engines. -/
structure BeginsNothing (s t : State) (i : LaneId) : Prop where
  read : ∀ r, (t.lane i).io = .read r true → (s.lane i).io = .read r true
  seq : ∀ q, (t.lane i).io = .seq q → q.begun = true → ∃ q', (s.lane i).io = .seq q' ∧ q'.begun = true
  poll : (t.lane i).gate.poll = .outstanding → (s.lane i).gate.poll = .outstanding
  block : ∀ off k, (t.lane i).pf.outstanding = .live off k → (s.lane i).pf.outstanding = .live off k
  timing : t.timing.owner = some i → s.timing.owner = some i
  mix : ∀ e : MixId, (t.mixEng e).owner = some i → (s.mixEng e).owner = some i

theorem State.Moves.beginsNothing {L : LaneId → Prop} {s t : State} (m : State.Moves L s t) (hold : s.hold = true)
    (i : LaneId) : BeginsNothing s t i :=
  have lane := m.lanes i
  have grants := m.grants hold
  ⟨lane.read hold, lane.seq hold, lane.poll hold, lane.pf.block hold, grants.timing i, fun e => grants.mix e i⟩

theorem BeginsNothing.of_lane {s t : State} {i : LaneId} (lane : t.lane i = s.lane i) (timing : t.timing = s.timing)
    (mix : t.mix = s.mix) : BeginsNothing s t i :=
  ⟨fun _ => by rw [lane]; exact id, fun q io begun => ⟨q, lane ▸ io, begun⟩, by rw [lane]; exact id,
    fun _ _ => by rw [lane]; exact id, by rw [timing]; exact id, fun e => by unfold State.mixEng; rw [mix]; exact id⟩

theorem BeginsNothing.of_reset {s t : State} {i : LaneId} (lane : t.lane i = Lane.reset)
    (timing : t.timing = TimingEngine.reset) (mix : ∀ e, t.mixEng e = MixEngine.reset) : BeginsNothing s t i :=
  ⟨by rw [lane]; exact nofun, by rw [lane]; exact nofun, by rw [lane]; exact nofun, by rw [lane]; exact nofun,
    by rw [timing]; exact nofun, fun e => by rw [mix]; exact nofun⟩

theorem State.mixEng_deviceReset (s : State) (e : MixId) : s.deviceReset.mixEng e = MixEngine.reset := by
  simp [State.mixEng, State.deviceReset, State.reset, Vector.get_eq_getElem]

/-- A write to NOTICE_MASK changes the mask and what is put on the link. -/
theorem State.writeMask_eq (s : State) (v : BitVec 32) :
    ∃ ws n, s.writeMask v = { s with mask := v.setWidth 16, wire := s.wire ++ ws, msiAsked := n } := by
  unfold State.writeMask State.askMsi State.put
  dsimp only
  repeat' split
  · exact ⟨[], s.msiAsked, by simp⟩
  · exact ⟨[_], s.msiAsked + 1, rfl⟩
  · exact ⟨[], s.msiAsked + 1, by simp⟩

theorem State.writeDirBase_eq (s : State) (half : DirHalf) (v : BitVec 32) :
    s.writeDirBase half v = { s with dirBase := if s.allIdle then newDirBase s.dirBase half v else s.dirBase } := by
  unfold State.writeDirBase
  split <;> rfl

theorem isReset_iff (c : Instr) : isReset c = true ↔ c = .devCtrlReset ∨ c = .functionLevelReset ∨ c = .powerOn := by
  simp only [isReset, Bool.or_eq_true, decide_eq_true_iff, or_assoc]

/-- Settles O13: a move begins nothing under HOLD; what is left changes registers only, or is a reset. -/
theorem holdBeginsNothing : Obligations.HoldBeginsNothing := by
  intro c s t i hold notClear h
  have key : BeginsNothing s t i ∧ (isReset c = false → t.timing.ptr = s.timing.ptr ∧ t.mixPtr = s.mixPtr) := by
    cases CommandStep.of_exec h with
    | moves m => exact ⟨m.beginsNothing hold i, fun _ => ⟨(m.grants hold).ptr, (m.grants hold).mixPtr⟩⟩
    | written a b accepts m =>
      obtain ⟨read, seq, poll, block, timing, mix⟩ := m.beginsNothing hold i
      exact ⟨⟨read, seq, poll, block, timing, mix⟩, fun _ => ⟨(m.grants hold).ptr, (m.grants hold).mixPtr⟩⟩
    | woken clear m => exact absurd clear notClear
    | held d keeps => exact ⟨.of_lane rfl rfl rfl, fun _ => ⟨rfl, rfl⟩⟩
    | mask v write =>
      obtain ⟨ws, n, e⟩ := State.writeMask_eq s v
      rw [e]
      exact ⟨.of_lane rfl rfl rfl, fun _ => ⟨rfl, rfl⟩⟩
    | dirBase half v write =>
      rw [State.writeDirBase_eq]
      exact ⟨.of_lane rfl rfl rfl, fun _ => ⟨rfl, rfl⟩⟩
    | reset device =>
      refine ⟨.of_reset (State.lane_deviceReset s i) rfl (State.mixEng_deviceReset s), fun not => ?_⟩
      rw [(isReset_iff c).mpr (.inl device)] at not
      cases not
    | functionReset function =>
      refine ⟨.of_reset (State.lane_functionReset s i) rfl (State.mixEng_deviceReset s), fun not => ?_⟩
      rw [(isReset_iff c).mpr (.inr function)] at not
      cases not
  obtain ⟨⟨read, seq, poll, block, timing, mix⟩, ptrs⟩ := key
  exact ⟨read, seq, poll, block, timing, mix, ptrs⟩

/-! ## Frames (R163, R164, R167) -/

/-- R164: both halves of a new DIR_BASE keep bits 9:0 at 0. -/
theorem newDirBase_low {old : Addr} (low : old.extractLsb' 0 10 = 0) (half : DirHalf) (v : BitVec 32) :
    (newDirBase old half v).extractLsb' 0 10 = 0 := by
  have bit (k : Nat) (hk : k < 10) : old.getLsbD k = false := by
    have := congrArg (fun x => x.getLsbD k) low
    simpa [hk] using this
  have masked : ∀ k : Fin 10, (0xFFFFFC00#32).getLsbD k.val = false := by decide
  refine BitVec.eq_of_getLsbD_eq fun k hk => ?_
  have hk32 : k < 32 := by omega
  have mask := masked ⟨k, hk⟩
  rw [BitVec.getLsbD_extractLsb', Nat.zero_add, decide_eq_true hk, Bool.true_and]
  change (newDirBase old half v).getLsbD k = (0#10).getLsbD k
  rw [BitVec.getLsbD_zero]
  cases half with
  | lo =>
    refine (BitVec.getLsbD_append ..).trans ?_
    rw [if_pos hk32, BitVec.getLsbD_and, mask, Bool.and_false]
  | hi =>
    refine (BitVec.getLsbD_append ..).trans ?_
    rw [if_pos hk32, BitVec.getLsbD_extractLsb', Nat.zero_add, bit k hk, Bool.and_false]

/-- The registers after a command that is no reset. -/
theorem CommandStep.frames {c : Instr} {s t : State} (h : CommandStep c s t) (ordinary : isReset c = false) :
    t.pending = s.pending ∧ t.bus = s.bus ∧ (t.mask = s.mask ∨ ∃ v, c = .noticeMaskWrite v)
      ∧ (t.dirBase = s.dirBase ∨ ∃ half v, c = .dirBaseWrite half v ∧ t.dirBase = newDirBase s.dirBase half v) := by
  have noReset {P : Prop} (h : c = .devCtrlReset ∨ c = .functionLevelReset ∨ c = .powerOn) : P := by
    rw [(isReset_iff c).mpr h] at ordinary
    cases ordinary
  cases h with
  | moves m => exact ⟨m.pending, m.bus, .inl m.mask, .inl m.dirBase⟩
  | written a b accepts m => exact ⟨m.pending, m.bus, .inl m.mask, .inl m.dirBase⟩
  | woken clear m => exact ⟨m.pending, m.bus, .inl m.mask, .inl m.dirBase⟩
  | held d keeps => exact ⟨rfl, rfl, .inl rfl, .inl rfl⟩
  | mask v write =>
    obtain ⟨ws, n, e⟩ := State.writeMask_eq s v
    rw [e]
    exact ⟨rfl, rfl, .inr ⟨v, write⟩, .inl rfl⟩
  | dirBase half v write =>
    rw [State.writeDirBase_eq]
    refine ⟨rfl, rfl, .inl rfl, ?_⟩
    by_cases idle : s.allIdle = true
    · exact .inr ⟨half, v, write, if_pos idle⟩
    · exact .inl (if_neg idle)
  | reset device => exact noReset (.inl device)
  | functionReset function => exact noReset (.inr function)

/-- Settles O2: a reset by computation; any other command by its frames. -/
theorem everyCommandCompletes : Obligations.EveryCommandCompletes := by
  intro c s
  by_cases reset : isReset c = true
  · obtain rfl | rfl | rfl := (isReset_iff c).mp reset
    · exact ⟨s.deviceReset, rfl, rfl, rfl, fun _ => rfl, fun _ => rfl, fun _ => rfl⟩
    · exact ⟨s.functionReset, rfl, rfl, rfl, fun _ => rfl, fun _ => rfl, fun _ => rfl⟩
    · exact ⟨s.functionReset, rfl, rfl, rfl, fun _ => rfl, fun _ => rfl, fun _ => rfl⟩
  · obtain ⟨t, h, step⟩ := exec_step c s
    obtain ⟨pending, bus, mask, base⟩ := step.frames (Bool.not_eq_true _ ▸ reset)
    have notFunction : ¬ (c = .functionLevelReset ∨ c = .powerOn) := fun h => reset ((isReset_iff c).mpr (.inr h))
    refine ⟨t, h, pending, by rw [bus, if_neg notFunction], fun noMask => ?_, fun noBase => ?_, fun low => ?_⟩
    · rw [if_neg reset]
      exact mask.resolve_right fun ⟨v, write⟩ => noMask v write
    · rw [if_neg reset]
      exact base.resolve_right fun ⟨half, v, write, _⟩ => noBase half v write
    · obtain same | ⟨half, v, -, e⟩ := base
      · rw [same, low]
      · rw [e, newDirBase_low low]

end Sys2Proof.Machine
end

section
/-! The Command Port: O14 to O20. -/

namespace Sys2Proof.Machine

open Sys2Proof

/-! ## Judgement (R119, R120) -/

theorem State.laneCmd_of_accepted {s : State} {i : LaneId} {code : BitVec 4} {a : Action} (free : s.port.job = none)
    (action : Action.ofCode code = some a) (ok : judgeAction s i a = .accepted) :
    s.laneCmd i code = (s.cmdTaken i code .accepted).perform i a := by
  unfold State.laneCmd
  rw [free, if_neg (by simp), action]
  dsimp only
  rw [if_pos ok, ok]
  rfl

theorem State.laneCmd_of_refused {s : State} {i : LaneId} {code : BitVec 4} {a : Action} {r : CmdResult}
    (free : s.port.job = none) (action : Action.ofCode code = some a) (judged : judgeAction s i a = r)
    (refused : r ≠ .accepted) : s.laneCmd i code = s.cmdTaken i code r := by
  unfold State.laneCmd
  rw [free, if_neg (by simp), action]
  dsimp only
  rw [judged, if_neg refused]
  rfl

theorem judgeAction_of_not {s : State} {i : LaneId} {a : Action}
    (h : actionAccepted a (s.lane i) (decide (s.dev = .held)) = false) : judgeAction s i a = .refusedState := by
  rw [judgeAction, h]
  rfl

theorem judgeAction_of_accepted {s : State} {i : LaneId} {a : Action}
    (h : actionAccepted a (s.lane i) (decide (s.dev = .held)) = true) (other : a ≠ .start) :
    judgeAction s i a = .accepted := by
  rw [judgeAction, if_pos h, if_neg fun h => other h.1]

/-- An action other than START that R120 accepts is carried out. -/
theorem State.laneCmd_performs {s : State} {i : LaneId} {code : BitVec 4} {a : Action} (free : s.port.job = none)
    (action : Action.ofCode code = some a) (other : a ≠ .start)
    (ok : actionAccepted a (s.lane i) (decide (s.dev = .held)) = true) :
    s.laneCmd i code = (s.cmdTaken i code .accepted).perform i a :=
  State.laneCmd_of_accepted free action (judgeAction_of_accepted ok other)

/-- An action that R120 does not accept is refused. -/
theorem State.laneCmd_refuses {s : State} {i : LaneId} {code : BitVec 4} {a : Action} (free : s.port.job = none)
    (action : Action.ofCode code = some a) (no : actionAccepted a (s.lane i) (decide (s.dev = .held)) = false) :
    s.laneCmd i code = s.cmdTaken i code .refusedState :=
  State.laneCmd_of_refused free action (judgeAction_of_not no) (by simp)

theorem State.laneCmd_busy {s : State} (i : LaneId) (code : BitVec 4) (busy : s.port.job ≠ none) :
    s.laneCmd i code = { s with port := { s.port with lastResult := .refusedBusy } } := by
  unfold State.laneCmd
  rw [if_pos (Option.isSome_iff_ne_none.mpr busy)]

@[simp] theorem State.lane_cmdTaken (s : State) (i j : LaneId) (code : BitVec 4) (r : CmdResult) :
    (s.cmdTaken i code r).lane j = s.lane j := rfl

@[simp] theorem State.hold_cmdTaken (s : State) (i : LaneId) (code : BitVec 4) (r : CmdResult) :
    (s.cmdTaken i code r).hold = s.hold := rfl

theorem State.onLink_cmdTaken (s : State) (i j : LaneId) (code : BitVec 4) (r : CmdResult) (t : State) :
    (s.cmdTaken j code r).onLink i t = s.onLink i t := rfl

/-! ## The actions (R121 to R125, R129, R161) -/

/-- Settles O14: R119's judgement of START, then R121. -/
theorem startTaken : Obligations.StartTaken := by
  intro i s free idle
  have ok : actionAccepted .start (s.lane i) (decide (s.dev = .held)) = true := by simp [actionAccepted, idle]
  change Host.Outcome.next (s.laneCmd i 1) = _
  by_cases base : s.dirBase = 0
  · have judged : judgeAction s i .start = .refusedNoDirectory := by
      rw [judgeAction, if_pos ok, if_pos ⟨rfl, base⟩]
    rw [State.laneCmd_of_refused free rfl judged (by simp), if_pos base]
  · have judged : judgeAction s i .start = .accepted := by
      rw [judgeAction, if_pos ok, if_neg fun h => base h.2]
    rw [State.laneCmd_of_accepted free rfl judged, if_neg base]
    simp [State.perform, State.onLink_cmdTaken, State.startLane, State.startRead_eq, State.modLane_eq]

theorem State.continueNow_of_stopped {s : State} {i : LaneId} (stopped : (s.lane i).state = .stopped) :
    s.continueNow i = s.setLane i
      (if (s.lane i).deferred ≠ none then { s.lane i with state := .noticeWait, waitAct := .fetch }
       else if (s.lane i).io = .idle then { s.lane i with state := .fetching, io := .read (.header false) (!s.hold) }
       else { s.lane i with state := .fetching }) := by
  unfold State.continueNow
  dsimp only
  rw [if_pos stopped]
  by_cases kept : (s.lane i).deferred = none
  · rw [if_neg (by simp [kept]), if_neg (not_not_intro kept)]
    split <;> rfl
  · rw [if_pos (Option.isSome_iff_ne_none.mpr kept), if_pos kept]
    rfl

theorem State.continueNow_of_not_stopped {s : State} {i : LaneId} (state : (s.lane i).state ≠ .stopped) :
    s.continueNow i = s.setLane i { s.lane i with contPending := true } := by
  unfold State.continueNow
  dsimp only
  rw [if_neg state]
  rfl

/-- Settles O15: a running lane remembers CONTINUE; a STOPPED one re-fetches or waits for its deferred notice. -/
theorem continueTaken : Obligations.ContinueTaken := by
  intro i s free
  refine ⟨fun running => ?_, fun stopped => ?_⟩
  · have ok : actionAccepted .continueLane (s.lane i) (decide (s.dev = .held)) = true := by
      simp [actionAccepted, running]
    have state : (s.lane i).state ≠ .stopped := fun h => by simp [h, LaneState.running] at running
    change Host.Outcome.next (s.laneCmd i 2) = _
    rw [State.laneCmd_performs free rfl (by simp) ok]
    exact congrArg (fun t => Host.Outcome.next (s.onLink i t)) (State.continueNow_of_not_stopped state)
  · have ok : actionAccepted .continueLane (s.lane i) (decide (s.dev = .held)) = true := by
      simp [actionAccepted, stopped]
    change Host.Outcome.next (s.laneCmd i 2) = _
    rw [State.laneCmd_performs free rfl (by simp) ok]
    exact congrArg (fun t => Host.Outcome.next (s.onLink i t)) (State.continueNow_of_stopped stopped)

/-- Settles O16: RESUME waits for a deferred notice, or reads again at once. -/
theorem resumeTaken : Obligations.ResumeTaken := by
  intro i s free halted
  have ok : actionAccepted .resume (s.lane i) (decide (s.dev = .held)) = true := by simp [actionAccepted, halted]
  change Host.Outcome.next (s.laneCmd i 3) = _
  rw [State.laneCmd_performs free rfl (by simp) ok]
  simp only [State.perform, State.onLink_cmdTaken, State.resumeAction, State.lane_cmdTaken]
  by_cases kept : (s.lane i).deferred = none
  · cases cur : (s.lane i).cur <;> simp [kept, cur, State.resumeNow, State.startRead_eq, State.modLane_eq]
  · simp [kept, Option.isSome_iff_ne_none, State.modLane_eq]

/-- The lane as its record retires SKIPPED. -/
theorem State.skipNow_of_header {s : State} {i : LaneId} {c : Record} {h : Header} (cur : (s.lane i).cur = some c)
    (hdr : c.hdr = some h) : s.skipNow i = s.retireSkipped i c := by
  simp only [State.skipNow, cur, hdr]

theorem State.skipNow_of_address {s : State} {i : LaneId} {c : Record} (cur : (s.lane i).cur = some c)
    (hdr : c.hdr = none) : s.skipNow i = s.startRead i .fetching (.header true) := by
  simp only [State.skipNow, cur, hdr]

/-- A retirement's writes depend on the lane's parameters and rest state, and on DIR_BASE, only. -/
theorem retireSteps_congr {s t : State} {i : LaneId} (par : (t.lane i).par = (s.lane i).par)
    (rest : (t.lane i).restLast = (s.lane i).restLast) (base : t.dirBase = s.dirBase) (c : Record) (r : RecResult)
    (withStatus : Bool) : retireSteps t i c r withStatus = retireSteps s i c r withStatus := by
  simp only [retireSteps, resumeStep, restStep, par, rest, base]

theorem State.skipAction_eq {s : State} {i : LaneId} {c : Record} (cur : (s.lane i).cur = some c) :
    s.skipAction i = s.setLane i
      (if (s.lane i).deferred ≠ none then
         { s.lane i with haltReason := .none, state := .noticeWait, waitAct := .skip }
       else if c.hdr = none then
         { s.lane i with haltReason := .none, state := .fetching, io := .read (.header true) (!s.hold) }
       else
         let r : RecResult := { outcome := .skipped, reason := .none, notes := c.ex.notes, progress := c.ex.progress }
         { (s.lane i).workEnded with
           haltReason := .none, state := .retiring
           io := newSeq s (.retire r) (retireSteps s i c r (!(c.owed.any Owed.accepted))) }) := by
  unfold State.skipAction
  dsimp only
  have cur' : ((s.modLane i fun l => { l with haltReason := .none }).lane i).cur = some c := by
    rw [State.lane_modLane_same]
    exact cur
  by_cases kept : (s.lane i).deferred = none
  · rw [if_neg (by simp [kept]), if_neg (not_not_intro kept)]
    cases hdr : c.hdr with
    | none =>
      rw [State.skipNow_of_address cur' hdr]
      simp [State.startRead_eq, State.modLane_eq]
    | some h =>
      rw [State.skipNow_of_header cur' hdr, State.retireSkipped_eq, if_neg (by simp),
        retireSteps_congr (s := s) (t := s.modLane i fun l => { l with haltReason := .none }) (by simp) (by simp) rfl]
      simp only [State.modLane_eq, State.lane_setLane_same, State.setLane_setLane]
      rfl
  · rw [if_pos (Option.isSome_iff_ne_none.mpr kept), if_pos kept, State.modLane_modLane]
    rfl

/-- Settles O17: SKIP waits for a deferred notice, reads the header of a bare record, or retires it. -/
theorem skipTaken : Obligations.SkipTaken := by
  intro i s c free halted cur
  have ok : actionAccepted .skip (s.lane i) (decide (s.dev = .held)) = true := by simp [actionAccepted, halted, cur]
  change Host.Outcome.next (s.laneCmd i 4) = _
  rw [State.laneCmd_performs free rfl (by simp) ok]
  exact congrArg (fun t => Host.Outcome.next (s.onLink i t)) (State.skipAction_eq (s := s.cmdTaken i 4 .accepted) cur)

theorem LaneIO.inFlightOnly_eq (io : LaneIO) : io.inFlightOnly = if io.issued then io else .idle := by
  cases io with
  | idle => rfl
  | read r issued => cases issued <;> rfl
  | seq q => rfl

theorem actionAccepted_abandon (l : Lane) (held : Bool) : actionAccepted .abandon l held = true ↔
    l.state.running = true ∨ l.state = .stopped ∨ l.state = .halted := by
  simp only [actionAccepted, Bool.or_eq_true, decide_eq_true_iff, or_assoc]

theorem State.abandonLane_eq (s : State) (i : LaneId) : s.abandonLane i = s.setLane i
    { s.lane i with
      state := .abandoning
      io := if (s.lane i).io.issued then (s.lane i).io else .idle
      gate := { deadline := 0, stale := (s.lane i).gate.stale
                poll := if (s.lane i).gate.poll = .outstanding then .outstanding else .none }
      pf := { (s.lane i).pf with outstanding := if (s.lane i).pf.outstanding = .none then .none else .stale } } := by
  simp only [State.abandonLane, State.modLane_eq, LaneIO.inFlightOnly_eq, Gate.abandon, BlockRead.makeStale_eq]

/-- Settles O18: ABANDON asks nothing of the link. -/
theorem abandonTaken : Obligations.AbandonTaken := by
  intro i s free state
  have ok := (actionAccepted_abandon (s.lane i) (decide (s.dev = .held))).mpr state
  change Host.Outcome.next (s.laneCmd i 5) = _
  rw [State.laneCmd_performs free rfl (by simp) ok]
  exact congrArg Host.Outcome.next (State.abandonLane_eq _ i)

theorem actionAccepted_inspect (l : Lane) (held : Bool) : actionAccepted .inspect l held = true ↔
    l.state = .idle ∨ l.state = .stopped ∨ l.state = .halted ∨ (l.state.running = true ∧ held = true) := by
  simp only [actionAccepted, Bool.or_eq_true, Bool.and_eq_true, decide_eq_true_iff, or_assoc]

theorem Lane.position_eq (l : Lane) : l.position =
    if l.kind = .subtitle then l.nextSeg else if l.kind = .description then l.mixPos else 0 := by
  unfold Lane.position
  cases l.kind <;> rfl

/-- R129: the snapshot, field by field. -/
theorem Lane.snapshot_eq (l : Lane) (i : LaneId) : l.snapshot i =
    { lane := i, state := l.state, kind := l.kind, halt := l.haltReason
      recAddr := (l.cur.map Record.addr).getD 0, progress := (l.cur.map (fun c => c.ex.progress)).getD 0
      pos := if l.kind = .subtitle then l.nextSeg else if l.kind = .description then l.mixPos else 0
      counters := l.counters, segTotal := l.segTotal, frmTotal := l.frmTotal
      cues := if l.kind = .subtitle then l.store else [], clips := if l.kind = .description then l.table else [] } := by
  unfold Lane.snapshot
  rw [Lane.position_eq]
  cases l.cur <;> rfl

/-- Settles O19: INSPECT sets the port's job, and asks for its read. -/
theorem inspectTaken : Obligations.InspectTaken := by
  intro i s free state
  have ok := (actionAccepted_inspect (s.lane i) (decide (s.dev = .held))).mpr (by simpa using state)
  change Host.Outcome.next (s.laneCmd i 6) = _
  rw [State.laneCmd_performs free rfl (by simp) ok]
  simp only [State.perform, State.startInspect, Lane.snapshot_eq]
  rfl

/-! ## Refusals (R119, R120) -/

theorem Action.ofCode_none {code : BitVec 4} (h : code.toNat = 0 ∨ 7 ≤ code.toNat) : Action.ofCode code = none := by
  unfold Action.ofCode
  split <;> first | omega | rfl

/-- Settles O20: each refusal by its test. -/
theorem actionsRefused : Obligations.ActionsRefused := by
  intro i code s
  refine ⟨fun busy c mem => ?_, fun free => ⟨fun none => ?_, fun state => ?_, fun running stopped => ?_,
    fun state => ?_, fun state => ?_, fun state => ?_, fun state => ?_⟩⟩
  · have step (code' : BitVec 4) : Host.Outcome.next (φ := Fault) (ρ := Refusal) (s.laneCmd i code') = _ :=
      congrArg Host.Outcome.next (State.laneCmd_busy i code' busy)
    simp only [List.mem_cons, List.not_mem_nil, or_false] at mem
    obtain rfl | rfl | rfl | rfl | rfl | rfl | rfl := mem <;> exact step _
  · change Host.Outcome.next (s.laneCmd i code) = _
    rw [State.laneCmd, if_neg (by simp [free]), Action.ofCode_none none]
    rfl
  · exact congrArg Host.Outcome.next (State.laneCmd_refuses free rfl (by simp [actionAccepted, state]))
  · exact congrArg Host.Outcome.next (State.laneCmd_refuses free rfl (by simp [actionAccepted, running, stopped]))
  · exact congrArg Host.Outcome.next (State.laneCmd_refuses free rfl (by simp [actionAccepted, state]))
  · refine congrArg Host.Outcome.next (State.laneCmd_refuses free rfl ?_)
    obtain state | cur := state <;> simp [actionAccepted, *]
  · refine congrArg Host.Outcome.next (State.laneCmd_refuses free rfl ?_)
    obtain state | state := state <;> simp [actionAccepted, state, LaneState.running]
  · refine congrArg Host.Outcome.next (State.laneCmd_refuses free rfl ?_)
    obtain state | ⟨running, notHeld⟩ := state
    · simp [actionAccepted, state, LaneState.running]
    · rw [Bool.eq_false_iff, Ne, actionAccepted_inspect]
      rintro (h | h | h | ⟨-, h⟩)
      · simp [h, LaneState.running] at running
      · simp [h, LaneState.running] at running
      · simp [h, LaneState.running] at running
      · exact notHeld (of_decide_eq_true h)

end Sys2Proof.Machine
end

section
/-! The register window (R146, R148, R164, R166): O21, O22, O23 and O26; the step and the reset state: O1, O3, O4. -/

namespace Sys2Proof.Machine

open Sys2Proof

/-! ## The step and the reset state -/

/-- Settles O1: the step by its two cases. -/
theorem stepRunsFront : Obligations.StepRunsFront := by
  intro s
  refine ⟨fun c rest => rfl, fun empty => ?_⟩
  rw [step, empty]

theorem State.lane_reset (i : LaneId) : State.reset.lane i = Lane.reset := by
  simp [State.lane, State.reset, Vector.get_eq_getElem]

theorem State.mixEng_reset (e : MixId) : State.reset.mixEng e = MixEngine.reset := by
  simp [State.mixEng, State.reset, Vector.get_eq_getElem]

/-- No lane is out of IDLE after power-on. -/
theorem State.notIdleMask_reset : State.reset.notIdleMask = 0 := by
  simp only [State.notIdleMask, State.lane_reset]
  rw [List.sum_eq_zero]
  intro n mem
  obtain ⟨i, -, rfl⟩ := List.mem_map.mp mem
  rfl

theorem State.readReg_reset (offset : Nat) : State.reset.readReg offset = 0 := by
  unfold State.readReg
  split
  · rfl
  · rfl
  · decide
  · rfl
  · rfl
  · rfl
  · rw [State.devStat, State.notIdleMask_reset, State.mixEng_reset, State.mixEng_reset]
    rfl
  · rfl

/-- Settles O3: item by item. -/
theorem resetState : Obligations.ResetState :=
  ⟨State.lane_reset, rfl, rfl, rfl, State.mixEng_reset, rfl, rfl, rfl, rfl, rfl, rfl, rfl, rfl, State.readReg_reset⟩

theorem State.shapely_reset : State.reset.Shapely := by
  refine ⟨⟨nofun, fun i => ?_⟩, fun i => ?_⟩
  · rw [State.mixEng_reset]
    exact nofun
  · have owned : State.reset.ownsEngine i = false := by
      simp only [State.ownsEngine, State.mixEng_reset]
      rfl
    rw [State.lane_reset, owned]
    exact ⟨trivial, fun poll => absurd rfl poll, nofun, nofun, nofun⟩

theorem State.poolsWhole_reset : State.reset.PoolsWhole := by
  simp only [State.PoolsWhole, State.cuesHeld, State.clipsHeld, State.lane_reset]
  decide

/-- Settles O4: nothing is held and nothing is in flight. -/
theorem resetIsSound : Obligations.ResetIsSound := by
  refine ⟨State.shapely_reset, State.poolsWhole_reset, rfl, fun i => ?_⟩
  rw [State.lane_reset]
  exact ⟨⟨nofun, .nil, Nat.le_refl 0⟩, ⟨.nil, nofun⟩, ⟨.nil, Nat.le_refl 0, fun _ => Nat.zero_le 4, nofun⟩,
    ⟨by decide, fun _ => by decide, fun _ _ _ => rfl⟩, countersLaw.reset,
    ⟨fun _ cur => (by cases cur), fun _ seq => (by cases seq)⟩⟩

/-! ## NOTICE_PEND (R146) -/

theorem laneBit_getLsbD (i : LaneId) (k : Nat) (hk : k < 16) : (laneBit i).getLsbD k = decide (k = i.val) := by
  rw [laneBit, BitVec.getLsbD_shiftLeft, BitVec.getLsbD_one]
  simp only [hk, decide_true, Bool.true_and]
  have := i.isLt
  by_cases e : k = i.val
  · simp [e]
  · have : ¬ (¬ k < i.val ∧ k - i.val = 0) := by omega
    simpa [e] using this

/-- R146: a lane after its bit of a write: its notice released where the bit was set and is cleared. -/
def Lane.pendWritten (l : Lane) (cleared : Bool) : Lane := if cleared then l.releaseDeferred else l

/-- One bit of a write to NOTICE_PEND. -/
theorem State.clearPend_spec (v : BitVec 32) (s : State) (i : LaneId) :
    (∀ j, (s.clearPend v i).lane j =
        if j = i then (s.lane i).pendWritten (v.getLsbD i.val && s.pend.getLsbD i.val) else s.lane j)
      ∧ (∀ k < 16, (s.clearPend v i).pend.getLsbD k = (s.pend.getLsbD k && !(decide (k = i.val) && v.getLsbD k)))
      ∧ { s.clearPend v i with lanes := s.lanes, pend := s.pend } = s := by
  unfold State.clearPend
  split
  next both =>
    obtain ⟨bit, set⟩ := (Bool.and_eq_true _ _).mp both
    refine ⟨fun j => ?_, fun k hk => ?_, rfl⟩
    · rw [State.lane_modLane, both]
      rfl
    · change (s.pend &&& ~~~laneBit i).getLsbD k = _
      rw [BitVec.getLsbD_and, BitVec.getLsbD_not, laneBit_getLsbD i k hk, decide_eq_true hk, Bool.true_and]
      by_cases e : k = i.val
      · simp [e, bit]
      · simp [e]
  next not =>
    refine ⟨fun j => ?_, fun k hk => ?_, rfl⟩
    · rw [Bool.not_eq_true] at not
      rw [not]
      split
      next e => rw [e]; rfl
      · rfl
    · by_cases e : k = i.val
      · subst e
        cases set : s.pend.getLsbD i.val
        · rfl
        · have : v.getLsbD i.val = false := by simpa [set] using not
          simp [this]
      · simp [e]

/-- The bits of a write to NOTICE_PEND one after another, each for its own lane. -/
theorem State.foldl_clearPend (v : BitVec 32) (is : List LaneId) (nodup : is.Nodup) (s : State) :
    (∀ j, (is.foldl (State.clearPend v) s).lane j =
        if j ∈ is then (s.lane j).pendWritten (v.getLsbD j.val && s.pend.getLsbD j.val) else s.lane j)
      ∧ (∀ k < 16, (is.foldl (State.clearPend v) s).pend.getLsbD k =
          (s.pend.getLsbD k && !(decide (∃ i ∈ is, k = i.val) && v.getLsbD k)))
      ∧ { is.foldl (State.clearPend v) s with lanes := s.lanes, pend := s.pend } = s := by
  induction is generalizing s with
  | nil => exact ⟨fun j => by simp, fun k _ => by simp, rfl⟩
  | cons i is ih =>
    obtain ⟨out, nodup⟩ := List.nodup_cons.mp nodup
    obtain ⟨lane, pend, rest⟩ := State.clearPend_spec v s i
    obtain ⟨lane', pend', rest'⟩ := ih nodup (s.clearPend v i)
    rw [List.foldl_cons]
    refine ⟨fun j => ?_, fun k hk => ?_, ?_⟩
    · rw [lane' j, lane j]
      by_cases e : j = i
      · subst e
        simp [out]
      · have apart : decide (j.val = i.val) = false := decide_eq_false fun h => e (Fin.ext h)
        rw [pend j.val j.isLt, apart]
        simp [e]
    · have either : (∃ i' ∈ i :: is, k = i'.val) ↔ k = i.val ∨ ∃ i' ∈ is, k = i'.val := by simp
      rw [pend' k hk, pend k hk, decide_eq_decide.mpr either, Bool.decide_or, Bool.and_assoc]
      generalize v.getLsbD k = bit
      cases bit <;> simp
    · have fields := congrArg (fun t : State => { t with lanes := s.lanes, pend := s.pend }) rest'
      exact fields.trans rest

/-- Two states that differ from a third in lanes and pending bits are equal when those are. -/
theorem State.eq_of_lanes_pend {s t u : State} (ht : { t with lanes := s.lanes, pend := s.pend } = s)
    (hu : { u with lanes := s.lanes, pend := s.pend } = s) (lanes : ∀ j, t.lane j = u.lane j) (pend : t.pend = u.pend) :
    t = u := by
  refine State.ext_lanes lanes ?_
  have fields := congrArg (fun x : State => { x with lanes := u.lanes, pend := u.pend }) (ht.trans hu.symm)
  rw [← pend] at fields
  exact fields.trans (by rw [pend])

/-- Settles O21: every bit meets its own lane. -/
theorem noticePendWritten : Obligations.NoticePendWritten := by
  intro v s
  refine congrArg (fun t => Host.Outcome.next (s.onLinkAll t)) ?_
  obtain ⟨lane, pend, rest⟩ := State.foldl_clearPend v laneIds laneIds_nodup s
  have all (j : LaneId) : j ∈ laneIds := List.mem_finRange j
  refine State.eq_of_lanes_pend rest rfl (fun j => (lane j).trans ?_) (BitVec.eq_of_getLsbD_eq fun k hk => ?_)
  · rw [if_pos (all j)]
    simp only [State.lane, Vector.get_ofFn, Lane.pendWritten, Lane.releaseDeferred]
    split
    · split <;> simp_all
    · rfl
  · have mem : ∃ i ∈ laneIds, k = i.val := ⟨⟨k, hk⟩, all _, rfl⟩
    refine (pend k hk).trans ?_
    simp [mem, hk]

/-! ## NOTICE_MASK (R148) and DIR_BASE (R164) -/

/-- The bits that a write to NOTICE_MASK raises over a set pending bit. -/
theorem maskRises_iff (s : State) (v : BitVec 32) : v.setWidth 16 &&& ~~~s.mask &&& s.pend = 0 ↔
    ¬ ∃ i : LaneId, v.getLsbD i.val = true ∧ s.mask.getLsbD i.val = false ∧ s.pend.getLsbD i.val = true := by
  constructor
  · rintro zero ⟨i, new, old, set⟩
    have bit : (v.setWidth 16 &&& ~~~s.mask &&& s.pend).getLsbD i.val = (0#16).getLsbD i.val := by rw [zero]; rfl
    rw [BitVec.getLsbD_and, BitVec.getLsbD_and, BitVec.getLsbD_not, BitVec.getLsbD_setWidth, new, old, set] at bit
    simp at bit
  · intro none
    refine BitVec.eq_of_getLsbD_eq fun k hk => ?_
    have at_k : ¬ (v.getLsbD k = true ∧ s.mask.getLsbD k = false ∧ s.pend.getLsbD k = true) := fun h =>
      none ⟨⟨k, hk⟩, h⟩
    rw [Bool.eq_iff_iff]
    simpa [hk, and_assoc] using at_k

/-- Settles O22: the rise by bits, then the MSI by configuration space. -/
theorem noticeMaskWritten : Obligations.NoticeMaskWritten := by
  intro v s
  refine congrArg Host.Outcome.next ?_
  unfold State.writeMask
  dsimp only
  by_cases rises : ∃ i : LaneId, v.getLsbD i.val = true ∧ s.mask.getLsbD i.val = false ∧ s.pend.getLsbD i.val = true
  · rw [if_neg fun zero => (maskRises_iff s v).mp zero rises, if_pos rises]
    unfold State.askMsi
    dsimp only
    split <;> rfl
  · rw [if_pos ((maskRises_iff s v).mpr rises), if_neg rises]

theorem State.allIdle_iff (s : State) : s.allIdle = true ↔ ∀ i, (s.lane i).state = .idle := by
  simp [State.allIdle, laneIds]

/-- R164: bits 9:0 of the low half are forced to 0. -/
theorem maskedLow (v : BitVec 32) : v &&& 0xFFFFFC00#32 = v.extractLsb' 10 22 ++ 0#10 := by
  refine BitVec.eq_of_getLsbD_eq fun k hk => ?_
  have mask : ∀ k : Fin 32, (0xFFFFFC00#32).getLsbD k.val = decide (10 ≤ k.val) := by decide
  rw [BitVec.getLsbD_and, mask ⟨k, hk⟩]
  refine Eq.trans ?_ (BitVec.getLsbD_append ..).symm
  by_cases low : k < 10
  · simp [low]
  · have : k - 10 < 22 := by omega
    have : 10 + (k - 10) = k := by omega
    simp only [BitVec.getLsbD_extractLsb', *]
    simp
    intro _
    omega

/-- Settles O23: the write is taken while every lane is IDLE. -/
theorem dirBaseWritten : Obligations.DirBaseWritten := by
  intro v s
  refine ⟨congrArg Host.Outcome.next ?_, congrArg Host.Outcome.next ?_⟩
  all_goals
    unfold State.writeDirBase
    simp only [State.allIdle_iff]
  · split
    · rw [newDirBase, maskedLow]
    · rfl
  · rfl

/-! ## Writes and what they decode to (R163 to R166) -/

theorem writeIgnored_iff (offset : BitVec 12) (n : Nat) : writeIgnored offset n = true ↔
    n < 4 ∨ ∀ a ∈ [0x000, 0x004, 0x008, 0x00C, 0x010, 0x014], offset.toNat ≠ a := by
  simp only [writeIgnored, registerOffsets, Bool.or_eq_true, decide_eq_true_iff, Bool.not_eq_true',
    Bool.eq_false_iff, Ne, List.contains_iff_mem, List.mem_cons, List.not_mem_nil, or_false, or_assoc]
  constructor
  · rintro (short | stat | none)
    · exact .inl short
    · exact .inr (by omega)
    · exact .inr (by omega)
  · rintro (short | none)
    · exact .inl short
    · refine .inr ?_
      have := none 0
      have := none 4
      have := none 8
      have := none 12
      have := none 16
      have := none 20
      omega

theorem decodeWrite32_of_ignored {offset : BitVec 12} {n : Nat} (v : BitVec 32) (h : writeIgnored offset n = true) :
    decodeWrite32 offset n v = .registerWriteIgnored offset n v := by
  unfold decodeWrite32
  rcases (writeIgnored_iff offset n).mp h with short | none
  · exact if_pos short
  · split
    · rfl
    · split
      all_goals first
        | rfl
        | exact absurd ‹_› (none _ (by simp))

theorem decodeLaneCmd_eq (v : BitVec 32) :
    let i : LaneId := Fin.ofNat 16 v.toNat
    let code := v.toNat / 256 % 16
    decodeLaneCmd v =
      if code = 1 then .start i else if code = 2 then .continueLane i else if code = 3 then .resume i
      else if code = 4 then .skip i else if code = 5 then .abandon i else if code = 6 then .inspect i
      else .refusedAction i (BitVec.ofNat 4 code) := by
  intro i code
  have lane : (v.extractLsb' 0 4).toFin = i := by
    refine Fin.ext ?_
    simp [i, Fin.ofNat]
  have codeBits : (v.extractLsb' 8 4).toNat = code := by
    simp [code, BitVec.extractLsb'_toNat, Nat.shiftRight_eq_div_pow]
  have codeWord : v.extractLsb' 8 4 = BitVec.ofNat 4 code := by
    rw [← codeBits, BitVec.ofNat_toNat, BitVec.setWidth_eq]
  unfold decodeLaneCmd
  rw [codeBits, lane, codeWord]
  clear_value code i
  dsimp only
  split <;> simp_all

/-- Settles O26: the ignored commands by `exec`; the writes by their offsets. -/
theorem nothingChanges : Obligations.NothingChanges := by
  refine ⟨fun s offset n v r => ⟨rfl, rfl, rfl⟩, writeIgnored_iff, fun offset n v ignored => ?_, fun v => ?_,
    fun offset lo hi => ?_⟩
  · rw [decodeWrite32_of_ignored v ignored]
    exact ⟨rfl, fun few => by simp [Instr.wellFormed, few, ignored]⟩
  · exact ⟨rfl, rfl, decodeLaneCmd_eq v, rfl, rfl, rfl⟩
  · have low : (hi ++ lo).extractLsb' 0 32 = lo := by
      refine BitVec.eq_of_getLsbD_eq fun k hk => ?_
      rw [BitVec.getLsbD_extractLsb', decide_eq_true hk, Bool.true_and, Nat.zero_add]
      exact (BitVec.getLsbD_append ..).trans (if_pos hk)
    have high : (hi ++ lo).extractLsb' 32 32 = hi := by
      refine BitVec.eq_of_getLsbD_eq fun k hk => ?_
      rw [BitVec.getLsbD_extractLsb', decide_eq_true hk, Bool.true_and]
      refine (BitVec.getLsbD_append ..).trans ?_
      rw [if_neg (by omega), Nat.add_sub_cancel_left]
    unfold decodeWrite64
    rw [low, high]
    split <;> rfl

end Sys2Proof.Machine
end

section
/-! HOLD and the resets (R162, R166, R169 to R172): O24 and O25. -/

namespace Sys2Proof.Machine

open Sys2Proof

/-! ## The drain (R169) -/

theorem LaneIO.busy_eq_issued (io : LaneIO) : io.busy = io.issued := by
  cases io <;> rfl

theorem Lane.quiet_iff (l : Lane) : l.quiet = true ↔
    l.io.issued = false ∧ l.gate.poll ≠ .outstanding ∧ l.gate.stale = false ∧ l.pf.outstanding = .none := by
  simp only [Lane.quiet, LaneIO.busy_eq_issued, Bool.and_eq_true, Bool.not_eq_true', decide_eq_true_iff, and_assoc]

theorem State.quiet_iff (s : State) : s.quiet = true ↔
    (∀ i, (s.lane i).io.issued = false ∧ (s.lane i).gate.poll ≠ .outstanding ∧ (s.lane i).gate.stale = false
        ∧ (s.lane i).pf.outstanding = .none)
      ∧ s.timing.owner = none ∧ (s.mixEng 0).owner = none ∧ (s.mixEng 1).owner = none
      ∧ ∀ j, s.port.job = some j → j.phase ≠ .entryRead := by
  simp only [State.quiet, Bool.and_eq_true, List.all_eq_true, laneIds, List.mem_finRange, true_implies, Lane.quiet_iff,
    Option.isNone_iff_eq_none, CmdPort.quiet_iff, and_assoc]

theorem State.hold_iff (s : State) : s.hold = true ↔ s.dev ≠ .run := decide_eq_true_iff

/-! ## The lanes go on (R170) -/

/-- What holds at a lane's turn in a fold of operations, each on its own lane. -/
theorem foldl_laneOnly_turn {f : State → LaneId → State} (only : ∀ s i, State.LaneOnly i s (f s i)) (is : List LaneId)
    (nodup : is.Nodup) (s : State) (j : LaneId) (mem : j ∈ is) :
    ∃ u : State, u.lane j = s.lane j ∧ { u with lanes := s.lanes } = s
      ∧ (is.foldl f s).lane j = (f u j).lane j := by
  have out : ∀ (is : List LaneId) (s : State), j ∉ is → (is.foldl f s).lane j = s.lane j := by
    intro is
    induction is with
    | nil => exact fun _ _ => rfl
    | cons i is ih =>
      intro s not
      obtain ⟨ne, not⟩ := not_or.mp (fun h => not (List.mem_cons.mpr h))
      rw [List.foldl_cons, ih _ not, (only s i).lane_ne ne]
  induction is generalizing s with
  | nil => cases mem
  | cons i is ih =>
    obtain ⟨notIn, nodup⟩ := List.nodup_cons.mp nodup
    rw [List.foldl_cons]
    obtain rfl | mem := List.mem_cons.mp mem
    · exact ⟨s, rfl, rfl, out is _ notIn⟩
    · obtain ⟨u, lane, rest, turn⟩ := ih nodup (f s i) mem
      have ne : j ≠ i := fun e => notIn (e ▸ mem)
      refine ⟨u, lane.trans ((only s i).lane_ne ne), ?_, turn⟩
      have others : { f s i with lanes := s.lanes } = s := by
        rw [only s i]
        rfl
      exact (congrArg (fun t : State => { t with lanes := s.lanes }) rest).trans others

/-- A fold of operations, each on its own lane, changes lanes only. -/
theorem foldl_laneOnly_rest {f : State → LaneId → State} (only : ∀ s i, State.LaneOnly i s (f s i)) (is : List LaneId)
    (s : State) : { is.foldl f s with lanes := s.lanes } = s := by
  induction is generalizing s with
  | nil => rfl
  | cons i is ih =>
    have others : { f s i with lanes := s.lanes } = s := by
      rw [only s i]
      rfl
    exact (congrArg (fun t : State => { t with lanes := s.lanes }) (ih (f s i))).trans others

/-- The lane's queue as the Prefetch Unit leaves it when HOLD is clear (R82). -/
def Lane.prefetched (l : Lane) : Prefetch :=
  match l.mixBody with
  | some b => if l.mayPrefetch b.frames false then l.pf.issue b.frames else l.pf
  | none => l.pf

theorem State.prefetch_eq {s : State} (i : LaneId) (run : s.hold = false) :
    s.prefetch i = s.setLane i { s.lane i with pf := (s.lane i).prefetched } := by
  unfold State.prefetch Lane.prefetched
  rw [run]
  cases (s.lane i).mixBody with
  | none => exact (State.setLane_lane s i).symm
  | some b =>
    dsimp only
    split
    · rfl
    · exact (State.setLane_lane s i).symm

theorem Lane.wakePoll_eq (l : Lane) : l.wakePoll =
    { l with gate := { l.gate with
        poll := if l.gate.poll = .due ∧ l.gate.stale = false then .outstanding else l.gate.poll } } := by
  unfold Lane.wakePoll
  split <;> rfl

/-- The lane as it goes on, but for its transfer: its waiting poll and its next block read are issued. -/
def Lane.woken (l : Lane) : Lane :=
  { l with
    gate := { l.gate with
      poll := if l.gate.poll = .due ∧ l.gate.stale = false then .outstanding else l.gate.poll }
    pf := l.prefetched }

/-- A lane's turn, from what its transfer becomes. -/
theorem State.lane_wake {s : State} {i : LaneId} (run : s.hold = false) :
    (s.wake i).lane i = ((s.wakeIO i).lane i).woken := by
  have still : ((s.wakeIO i).modLane i Lane.wakePoll).hold = false :=
    (State.hold_of_dev (State.laneOnly_wakeIO s i).fields.2.2.2.2.2.2.2.2.2.1).trans run
  rw [State.wake, State.prefetch_eq i still, State.lane_setLane_same, State.lane_modLane_same, Lane.wakePoll_eq]
  rfl

/-- A RETIRING lane prefetches nothing. -/
theorem Lane.prefetched_of_not {l : Lane} (h : l.prefetching = false) : l.prefetched = l.pf := by
  unfold Lane.prefetched Lane.mayPrefetch
  rw [h]
  cases l.mixBody <;> rfl

/-- A lane that has just halted goes on with its poll alone. -/
theorem Lane.woken_halted (l : Lane) (n : Notice) :
    ({ l with deferred := some n, state := .halted, io := .idle } : Lane).woken =
      { l with
        gate := { l.gate with
          poll := if l.gate.poll = .due ∧ l.gate.stale = false then .outstanding else l.gate.poll }
        deferred := some n, state := .halted, io := .idle } := by
  rw [Lane.woken, Lane.prefetched_of_not rfl]

theorem State.wakeIO_of_idle {s : State} {i : LaneId} (io : (s.lane i).io = .idle) : s.wakeIO i = s := by
  simp only [State.wakeIO, io]

theorem State.wakeIO_of_read {s : State} {i : LaneId} {r : LaneRead} {b : Bool} (io : (s.lane i).io = .read r b) :
    s.wakeIO i = s.setLane i { s.lane i with io := .read r true } := by
  cases b with
  | false =>
    simp only [State.wakeIO, io]
    rfl
  | true =>
    rw [← io, State.setLane_lane]
    simp only [State.wakeIO, io]

theorem State.wakeIO_of_begun {s : State} {i : LaneId} {q : WriteSeq} (io : (s.lane i).io = .seq q)
    (begun : q.begun = true) : s.wakeIO i = s := by
  simp only [State.wakeIO, io, if_pos begun]

theorem State.wakeIO_of_waiting {s : State} {i : LaneId} {q : WriteSeq} (io : (s.lane i).io = .seq q)
    (waits : q.begun = false) :
    s.wakeIO i = (s.setLane i { s.lane i with io := .seq { q with begun := true } }).runSeq i := by
  simp only [State.wakeIO, io, waits]
  rfl

/-- A halt whose first step is its notice hands it over as HOLD is cleared. -/
theorem State.wakeIO_of_halt {s : State} {i : LaneId} {q : WriteSeq} {n : Notice} {rest : List SeqStep}
    (io : (s.lane i).io = .seq q) (waits : q.begun = false) (steps : q.steps = .notice n :: rest)
    (retiring : (s.lane i).state = .retiring) (kind : q.kind = .entryHalt ∨ q.kind = .rehalt) :
    (s.wakeIO i).lane i =
      if (s.lane i).slot ≠ none then { s.lane i with io := .seq { q with begun := true } }
      else if s.pend.getLsbD i.val then { s.lane i with deferred := some n, state := .halted, io := .idle }
      else
        { s.lane i with
          slot := some { notice := n, own := true, setsBit := true }, io := .seq { q with begun := true } } := by
  rw [State.wakeIO_of_waiting io waits, State.runSeq_of_notice (q := { q with begun := true }) (by simp) rfl steps,
    State.handNotice_eq, State.lane_setLane_same]
  simp only [State.lane_setLane_same, State.setLane_pend]
  have notTeardown : ({ q with begun := true } : WriteSeq).kind ≠ .teardown := by
    obtain h | h := kind <;> simp [h]
  unfold Lane.noticeHanded
  rw [if_neg notTeardown]
  have ended : ({ s.lane i with io := .seq { q with begun := true } } : Lane).eventEnded { q with begun := true } true
      (State.hold (s.setLane i { s.lane i with io := .seq { q with begun := true } }))
      = { s.lane i with state := .halted, io := .idle } := by
    unfold Lane.eventEnded
    dsimp only
    rw [if_neg (by simp [retiring])]
    obtain h | h := kind <;> simp [h]
  rw [ended]

/-- Settles O24: each lane at its turn. -/
theorem holdChanges : Obligations.HoldChanges := by
  intro s
  refine ⟨congrArg Host.Outcome.next ?_, congrArg Host.Outcome.next ?_, fun run => ?_, fun on => ?_⟩
  · by_cases run : s.dev = .run
    · rw [if_neg fun h => (s.hold_iff.mp h) run, if_pos run]
    · rw [if_pos (s.hold_iff.mpr run), if_neg run]
  · simp only [State.quiet_iff]
  · exact congrArg Host.Outcome.next (if_neg fun h => (s.hold_iff.mp h) run)
  · have cleared : s.holdCleared = laneIds.foldl State.wake { s with dev := .run } := if_pos (s.hold_iff.mpr on)
    have rest := foldl_laneOnly_rest State.laneOnly_wake laneIds { s with dev := .run }
    have turn (i : LaneId) := foldl_laneOnly_turn State.laneOnly_wake laneIds laneIds_nodup { s with dev := .run } i
      (List.mem_finRange i)
    rw [← cleared] at rest
    simp only [← cleared] at turn
    refine ⟨s.holdCleared, congrArg Host.Outcome.next (if_pos (s.hold_iff.mpr on)), congrArg State.dev rest,
      congrArg (fun t : State => { t with dev := s.dev }) rest, fun i => ?_⟩
    obtain ⟨u, lane, same, turn⟩ := turn i
    have lane : u.lane i = s.lane i := lane
    have run : u.hold = false := by
      rw [State.hold, show u.dev = .run from congrArg State.dev same]
      rfl
    have pend := congrArg State.pend same
    change u.pend = s.pend at pend
    rw [State.lane_wake run] at turn
    rw [turn]
    refine ⟨fun io => ?_, fun r b io => ?_, fun q io begun => ?_, fun q k a b more io waits steps => ?_,
      fun q n more io waits steps retiring kind => ?_⟩ <;> rw [← lane] at io
    · rw [State.wakeIO_of_idle io, lane]
      rfl
    · rw [State.wakeIO_of_read io, State.lane_setLane_same, lane]
      rfl
    · rw [State.wakeIO_of_begun io begun, lane]
      rfl
    · rw [State.wakeIO_of_waiting io waits, State.runSeq_of_waiting, State.lane_setLane_same, lane]
      · rfl
      · intro q' io'
        rw [State.lane_setLane_same] at io'
        exact .inr ⟨k, a, b, more, LaneIO.seq.inj io' ▸ steps⟩
    · rw [State.wakeIO_of_halt io waits steps (by rw [lane]; exact retiring) kind, lane, pend]
      have none : (s.lane i).prefetched = (s.lane i).pf := Lane.prefetched_of_not (by simp [Lane.prefetching, retiring])
      by_cases slot : (s.lane i).slot = .none
      · rw [if_neg (not_not_intro slot), if_neg (not_not_intro slot)]
        by_cases bit : s.pend.getLsbD i.val = true
        · rw [if_pos bit, if_pos bit]
          refine Eq.trans (Lane.woken_halted _ n) ?_
          change _ = { (s.lane i).woken with deferred := some n, state := .halted, io := .idle }
          rw [Lane.woken, none]
        · rw [if_neg bit, if_neg bit]
          rfl
      · rw [if_pos slot, if_pos slot]
        rfl

/-! ## Resets (R162, R171, R172) -/

theorem Lane.headWrite_iff (l : Lane) (q : WriteSeq) (k : WriteKind) (a : Addr) (b : List Byte) :
    l.headWrite = some (q, k, a, b) ↔ l.io = .seq q ∧ q.begun = true ∧ ∃ rest, q.steps = .write k a b :: rest := by
  constructor
  · intro head
    refine ⟨Lane.headWrite_io head, Lane.headWrite_begun head, ?_⟩
    unfold Lane.headWrite at head
    repeat' split at head
    all_goals simp_all
  · rintro ⟨io, begun, rest, steps⟩
    simp [Lane.headWrite, io, begun, steps]

/-- R162: the writes of one lane's own that may be torn. -/
theorem Lane.mem_tornWrites (l : Lane) (base : Addr) (i : LaneId) (w : LinkWrite) : w ∈ l.tornWrites base i ↔
    (∃ q k a b rest, l.io = .seq q ∧ q.begun = true ∧ q.steps = .write k a b :: rest ∧ w = .torn a b)
      ∨ ∃ x, l.slot = some x ∧ w = .torn (noticeSlotAddr base i) x.notice.bytes := by
  unfold Lane.tornWrites
  rw [List.mem_append]
  refine or_congr ?_ ?_
  · constructor
    · intro mem
      split at mem
      next q k a b head =>
        obtain ⟨io, begun, rest, steps⟩ := (Lane.headWrite_iff l q k a b).mp head
        exact ⟨q, k, a, b, rest, io, begun, steps, List.mem_singleton.mp mem⟩
      · cases mem
    · rintro ⟨q, k, a, b, rest, io, begun, steps, rfl⟩
      rw [(Lane.headWrite_iff l q k a b).mpr ⟨io, begun, rest, steps⟩]
      exact List.mem_singleton.mpr rfl
  · cases l.slot <;> simp

theorem State.mem_tornSegment (s : State) (w : LinkWrite) : w ∈ s.tornSegment ↔
    ∃ i c, s.timing.owner = some i ∧ s.timing.unit = .segWrite ∧ (s.lane i).cur = some c
      ∧ w = .torn (BitVec.ofNat 64 (leField c.fields 8 8) + BitVec.ofNat 64 c.ex.areaOff) s.timing.buffer := by
  unfold State.tornSegment
  constructor
  · intro mem
    split at mem
    next i owner unit =>
      split at mem
      next c cur => exact ⟨i, c, owner, unit, cur, List.mem_singleton.mp mem⟩
      · cases mem
    · cases mem
  · rintro ⟨i, c, owner, unit, cur, rfl⟩
    rw [owner, unit]
    dsimp only
    rw [cur]
    exact List.mem_singleton.mpr rfl

theorem Lane.mixBody_some_iff (l : Lane) (b : MixBody) : l.mixBody = some b ↔
    ∃ c, l.cur = some c ∧ c.kind = some .mix ∧ MixBody.ofBytes c.fields = b := by
  unfold Lane.mixBody
  cases l.cur with
  | none => simp
  | some c => simp

theorem State.mem_tornBlock (s : State) (e : MixId) (w : LinkWrite) : w ∈ s.tornBlock e ↔
    ∃ (i : LaneId) (c : Record) (off k : Nat) (samples : List (BitVec 16)) (rest : List QBlock),
      (s.mixEng e).owner = some i ∧ (s.mixEng e).phase = .writing ∧ (s.lane i).cur = some c ∧ c.kind = some .mix
        ∧ (s.lane i).pf.queue = .read off k samples :: rest
        ∧ w = .torn (BitVec.ofNat 64 (leField c.fields 8 8) + BitVec.ofNat 64 (2 * (off * (s.lane i).par.chans)))
          (mixedBytes (s.mixEng e).acc) := by
  unfold State.tornBlock
  dsimp only
  constructor
  · intro mem
    split at mem
    next i owner phase =>
      split at mem
      next b off k samples rest body queue =>
        obtain ⟨c, cur, kind, rfl⟩ := (Lane.mixBody_some_iff _ _).mp body
        exact ⟨i, c, off, k, samples, rest, owner, phase, cur, kind, queue, List.mem_singleton.mp mem⟩
      · cases mem
    · cases mem
  · rintro ⟨i, c, off, k, samples, rest, owner, phase, cur, kind, queue, rfl⟩
    rw [owner, phase]
    dsimp only
    rw [(Lane.mixBody_some_iff _ _).mpr ⟨c, cur, kind, rfl⟩, queue]
    exact List.mem_singleton.mpr rfl

theorem CmdPort.mem_tornImage (p : CmdPort) (w : LinkWrite) : w ∈ p.tornImage ↔
    ∃ j a b, p.job = some j ∧ j.phase = .writing a b ∧ w = .torn a b := by
  unfold CmdPort.tornImage
  cases p.job with
  | none => simp
  | some j => cases phase : j.phase <;> simp [phase]

theorem State.mem_tornAtReset (s : State) (w : LinkWrite) : w ∈ s.tornAtReset ↔
    (∃ i, w ∈ (s.lane i).tornWrites s.dirBase i) ∨ w ∈ s.tornSegment ∨ (∃ e, w ∈ s.tornBlock e)
      ∨ w ∈ s.port.tornImage := by
  have engines : (∃ e, w ∈ s.tornBlock e) ↔ w ∈ s.tornBlock 0 ∨ w ∈ s.tornBlock 1 := by
    simp [Fin.exists_fin_two]
  rw [engines]
  simp only [State.tornAtReset, List.mem_append, List.mem_flatten, List.mem_map, laneIds, List.mem_finRange, true_and,
    exists_exists_eq_and, or_assoc]

/-- Settles O25: the reset by computation; the torn writes one kind after another. -/
theorem resetsTaken : Obligations.ResetsTaken := by
  intro s
  refine ⟨rfl, rfl, rfl, fun w => ?_⟩
  rw [State.mem_tornAtReset, State.mem_tornSegment, CmdPort.mem_tornImage]
  simp only [Lane.mem_tornWrites, State.mem_tornBlock, exists_or, or_assoc]
  rfl

end Sys2Proof.Machine
end

section
/-! Entry reads, record fetches and gates (R95 to R102, R125, R152, R153, R158, R161): O30 to O35 and O37. -/

namespace Sys2Proof.Machine

open Sys2Proof

/-! ## Fields of a record as numbers -/

theorem leNat_lt (b : List Byte) : leNat b < 256 ^ b.length := by
  induction b with
  | nil => decide
  | cons x xs ih =>
    have byte := x.isLt
    rw [leNat, List.length_cons, Nat.pow_succ]
    omega

theorem leField_lt (b : List Byte) (off n : Nat) : leField b off n < 256 ^ n :=
  (leNat_lt _).trans_le (Nat.pow_le_pow_right (by decide) (List.length_take_le _ _))

/-- A field read as an address loses nothing. -/
theorem toNat_addrField (b : List Byte) (off : Nat) : (BitVec.ofNat 64 (leField b off 8)).toNat = leField b off 8 := by
  rw [BitVec.toNat_ofNat, Nat.mod_eq_of_lt (by simpa using leField_lt b off 8)]

theorem toNat_wordField (b : List Byte) (off : Nat) : (BitVec.ofNat 32 (leField b off 4)).toNat = leField b off 4 := by
  rw [BitVec.toNat_ofNat, Nat.mod_eq_of_lt (by simpa using leField_lt b off 4)]

theorem aligned_iff (a : Addr) (n : Nat) : aligned a n = true ↔ a.toNat % n = 0 := decide_eq_true_iff

theorem aligned_eq_false_iff (a : Addr) (n : Nat) : aligned a n = false ↔ a.toNat % n ≠ 0 := decide_eq_false_iff_not

theorem Record.gateValue_eq_iff (c : Record) (word : BitVec 32) :
    c.gateValue = word ↔ word.toNat = leField c.body 8 4 := by
  rw [← BitVec.toNat_inj, Record.gateValue, toNat_wordField, eq_comm]

/-- The outcome of a command of lane i, from what its operation comes to. -/
theorem next_onLink {s t u : State} {i : LaneId} (h : t = u) :
    (Host.Outcome.next (s.onLink i t) : Host.Outcome State Fault Refusal) = .next (s.onLink i u) := h ▸ rfl

/-! ## Entry reads (R95) -/

theorem State.entryHalt_eq (s : State) (i : LaneId) (why : Reason) (a : Addr) :
    s.entryHalt i why a =
      (s.setLane i { s.lane i with haltReason := why, next := none, cur := none }).startSeq i .retiring .entryHalt
        (restStep s i .halted
          ++ [.notice { addr := a, tag := 0, outcome := .failed, reason := why, notes := 0, progress := 0
                        rest := .halted }]) (!s.hold) := rfl

/-- Settles O30: the start address is judged; a failed read halts as address 0 does. -/
theorem entryReadEnds : Obligations.EntryReadEnds := by
  intro i start s io state
  refine ⟨next_onLink ?_, next_onLink ?_⟩
  · rw [State.entryRead, if_pos io, if_neg state, State.entryHalt_eq]
    by_cases good : start ≠ 0 ∧ start.toNat % 8 = 0
    · obtain ⟨nonzero, multiple⟩ := good
      rw [if_neg (not_or.mpr ⟨nonzero, by simp [aligned, multiple]⟩), if_pos ⟨nonzero, multiple⟩]
      simp [State.startRead_eq, State.modLane_eq]
    · rw [if_pos (by rw [not_and_or, not_not] at good; rwa [aligned_eq_false_iff]), if_neg good]
  · rw [State.entryFailed, if_pos io, if_neg state, State.entryHalt_eq]

/-! ## Headers (R96 to R98, R158) -/

theorem Record.compared_eq (c : Record) (h : Header) : c.compared h =
    if c.kind ≠ none ∧ c.kind = h.kind then c else { c with ex := ExecState.zero, owed := none } := by
  simp only [Record.compared, Option.isSome_iff_ne_none]

@[simp] theorem Record.compared_addr (c : Record) (h : Header) : (c.compared h).addr = c.addr := by
  unfold Record.compared
  split <;> rfl

/-- The comparison of kinds leaves the address of the fetch. -/
theorem Lane.fetchAddr_compared (l : Lane) (h : Header) :
    ({ l with cur := l.cur.map fun c => c.compared h } : Lane).fetchAddr = l.fetchAddr := by
  unfold Lane.fetchAddr
  cases l.cur <;> simp

theorem Header.hasGate_iff (h : Header) :
    h.hasGate = true ↔ h.gated = true ∧ h.kind ≠ some .link ∧ h.kind ≠ some .stop := by
  simp only [Header.hasGate, Bool.and_eq_true, decide_eq_true_iff, and_assoc]

/-- R97: the sizes of the ten bodies. -/
theorem RecKind.bodySize_eq (k : RecKind) : k.bodySize =
    match some k with
    | some .openRec => 48 | some .emit => 48 | some .clip => 32 | some .mix => 24 | some .cues => 16
    | some .link => 8 | _ => 0 := by
  cases k <;> rfl

theorem Header.bad_iff (h : Header) (a : Addr) : h.bad a = true ↔
    h.kind = none ∨ h.len < 16 ∨ 512 < h.len ∨ h.len % 8 ≠ 0
      ∨ h.len < 16 + (if h.gated = true ∧ h.kind ≠ some .link ∧ h.kind ≠ some .stop then 16 else 0)
          + (match h.kind with
             | some .openRec => 48 | some .emit => 48 | some .clip => 32 | some .mix => 24 | some .cues => 16
             | some .link => 8 | _ => 0)
      ∨ 2 ^ 64 - 1 < a.toNat + h.len := by
  have gate : (if h.gated = true ∧ h.kind ≠ some .link ∧ h.kind ≠ some .stop then 16 else 0)
      = if h.hasGate then 16 else 0 := by simp only [h.hasGate_iff]
  rw [gate]
  unfold Header.bad
  cases h.kind with
  | none => simp
  | some k =>
    rw [← RecKind.bodySize_eq]
    simp only [Bool.or_eq_true, decide_eq_true_iff, reduceCtorEq, false_or, or_assoc]

/-- What the lane's record is after a header read, with execution state and owed retirement compared (R158). -/
theorem Lane.fetched_eq (l : Lane) (h : Header) (body : List Byte) : l.fetched h body =
    match l.cur with
    | some c => { c with hdr := some h, body := body }
    | none => { addr := l.next.getD 0, hdr := some h, body := body, ex := ExecState.zero, owed := none } := by
  unfold Lane.fetched Lane.fetchAddr
  cases l.cur <;> rfl

/-- The lane with its held record compared with a header. -/
def Lane.judged (l : Lane) (h : Header) : Lane := { l with cur := l.cur.map fun c => c.compared h }

theorem State.judgeHeader_of_owed {s : State} {i : LaneId} {h : Header} {o : Owed}
    (owed : ((s.lane i).judged h).cur.bind Record.owed = some o) :
    s.judgeHeader i h =
      if h.bad (s.lane i).fetchAddr then
        (s.setLane i { (s.lane i).judged h with cur := some (((s.lane i).judged h).fetched h []) }).failOwed i
          (((s.lane i).judged h).fetched h []) o .badRecord
      else if h.len = 16 then
        (s.setLane i { (s.lane i).judged h with cur := some (((s.lane i).judged h).fetched h []) }).recordFetched i
      else s.setLane i { (s.lane i).judged h with state := .fetching, io := .read (.body h) (!s.hold) } := by
  have compared : (s.modLane i fun l => { l with cur := l.cur.map fun c => c.compared h })
      = s.setLane i ((s.lane i).judged h) := rfl
  have addr : ((s.lane i).judged h).fetchAddr = (s.lane i).fetchAddr := Lane.fetchAddr_compared _ _
  unfold State.judgeHeader
  simp only [compared, State.lane_setLane_same, owed, addr, State.startRead_eq, State.modLane_eq,
    State.setLane_setLane, State.hold_setLane]

theorem State.judgeHeader_of_clean {s : State} {i : LaneId} {h : Header}
    (owed : ((s.lane i).judged h).cur.bind Record.owed = none) :
    s.judgeHeader i h =
      if h.bad (s.lane i).fetchAddr then
        (s.setLane i ((s.lane i).judged h)).failHeader i { h with kind := none } .badRecord
      else match h.kind.bind (kindCheck (s.lane i).kind) with
        | some why => (s.setLane i ((s.lane i).judged h)).failHeader i h why
        | none =>
          if h.len = 16 then
            (s.setLane i { (s.lane i).judged h with cur := some (((s.lane i).judged h).fetched h []) }).recordFetched i
          else s.setLane i { (s.lane i).judged h with state := .fetching, io := .read (.body h) (!s.hold) } := by
  have compared : (s.modLane i fun l => { l with cur := l.cur.map fun c => c.compared h })
      = s.setLane i ((s.lane i).judged h) := rfl
  have addr : ((s.lane i).judged h).fetchAddr = (s.lane i).fetchAddr := Lane.fetchAddr_compared _ _
  unfold State.judgeHeader
  simp only [compared, State.lane_setLane_same, owed, addr, State.startRead_eq, State.modLane_eq,
    State.setLane_setLane, State.hold_setLane]
  rfl

/-- A header that fails retires its record with execution state 0. -/
theorem State.failHeader_judged (s : State) (i : LaneId) (h hd : Header) (why : Reason) :
    (s.setLane i ((s.lane i).judged h)).failHeader i hd why =
      (s.setLane i
        { s.lane i with
          cur := some { addr := (s.lane i).fetchAddr, hdr := some hd, body := [], ex := ExecState.zero, owed := none } }).retire
        i .failed why := by
  rw [State.failHeader, State.modLane_eq, State.lane_setLane_same, State.setLane_setLane,
    show ((s.lane i).judged h).fetchAddr = _ from Lane.fetchAddr_compared _ _]
  rfl

theorem State.headerRead_of_fetch {s : State} {i : LaneId} (bits : BitVec 128)
    (io : (s.lane i).io = .read (.header false) true) (state : (s.lane i).state ≠ .abandoning) :
    s.headerRead i bits = s.judgeHeader i (Header.ofBits bits) := by
  rw [State.headerRead, if_pos io, if_neg state]

/-- R98: the table of lane kinds and record kinds. -/
theorem kindCheck_some {lk : LaneKind} {k : RecKind} {why : Reason}
    (h : (k = .openRec ∧ lk ≠ .none ∧ why = .laneOpen)
      ∨ ((k = .closeRec ∨ k = .cues ∨ k = .cue ∨ k = .emit ∨ k = .clip ∨ k = .mix) ∧ lk = .none ∧ why = .laneClosed)
      ∨ ((k = .cues ∨ k = .cue ∨ k = .emit) ∧ lk = .description ∧ why = .wrongKind)
      ∨ ((k = .clip ∨ k = .mix) ∧ lk = .subtitle ∧ why = .wrongKind)) : kindCheck lk k = some why := by
  cases k <;> cases lk <;> simp_all [kindCheck]

/-- Settles O31: the four courses of a header that fails. -/
theorem headerRefused : Obligations.HeaderRefused := by
  intro i bits s io state h held a failed
  refine ⟨Header.bad_iff h a, fun clean bad => next_onLink ?_, fun clean good k why kind table => next_onLink ?_,
    fun c o cur owed bad => next_onLink ?_⟩
  · rw [State.headerRead_of_fetch bits io state, State.judgeHeader_of_clean clean, if_pos bad, State.failHeader_judged]
  · rw [State.headerRead_of_fetch bits io state, State.judgeHeader_of_clean clean, if_neg (Bool.eq_false_iff.mp good),
      kind, Option.bind_some, kindCheck_some table]
    exact State.failHeader_judged s i h h why
  · have bound : ((s.lane i).judged h).cur.bind Record.owed = some o := by
      rw [show ((s.lane i).judged h).cur = some c from cur]
      exact owed
    have fetched : ((s.lane i).judged h).fetched h [] = { c with hdr := some h, body := [] } := by
      rw [Lane.fetched_eq, show ((s.lane i).judged h).cur = some c from cur]
    rw [State.headerRead_of_fetch bits io state, State.judgeHeader_of_owed bound, if_pos bad, fetched,
      State.failRecord_of_owed (c := { c with hdr := some h, body := [] }) (o := o) _ (by simp) owed]
    rfl

/-- The lane's record after a passing header, held whole. -/
theorem Lane.fetched_judged (l : Lane) (h : Header) : (l.judged h).fetched h [] =
    match l.cur.map (fun c => if c.kind ≠ none ∧ c.kind = h.kind then c else { c with ex := ExecState.zero, owed := none }) with
    | some c => { c with hdr := some h, body := [] }
    | none => { addr := l.fetchAddr, hdr := some h, body := [], ex := ExecState.zero, owed := none } := by
  rw [Lane.fetched_eq, Lane.judged]
  simp only [Record.compared_eq]
  unfold Lane.fetchAddr
  cases l.cur <;> rfl

/-- Settles O32: a record of 16 bytes goes on; a longer one is read further; a SKIP retires its record. -/
theorem headerPassed : Obligations.HeaderPassed := by
  intro i bits s state h a clean held
  refine ⟨fun io good pass => next_onLink ?_, fun c io cur => next_onLink ?_⟩
  · have judged : (s.lane i).judged h = { s.lane i with cur := held } := by
      simp only [Lane.judged, Record.compared_eq, held]
    have notBad : ¬ h.bad (s.lane i).fetchAddr = true := Bool.eq_false_iff.mp good
    have goesOn : (if h.len = 16 then
          (s.setLane i { (s.lane i).judged h with cur := some (((s.lane i).judged h).fetched h []) }).recordFetched i
        else s.setLane i { (s.lane i).judged h with state := .fetching, io := .read (.body h) (!s.hold) })
        = if h.len = 16 then
            (s.setLane i
              { s.lane i with
                cur := some (match held with
                  | some c => { c with hdr := some h, body := [] }
                  | none => clean) }).recordFetched i
          else s.setLane i { s.lane i with cur := held, state := .fetching, io := .read (.body h) (!s.hold) } := by
      rw [Lane.fetched_judged, judged]
    rw [State.headerRead_of_fetch bits io state]
    cases owed : ((s.lane i).judged h).cur.bind Record.owed with
    | some o =>
      rw [State.judgeHeader_of_owed owed, if_neg notBad]
      exact goesOn
    | none =>
      have kind : h.kind.bind (kindCheck (s.lane i).kind) = none :=
        pass.resolve_left fun some => some (by rw [judged] at owed; exact owed)
      rw [State.judgeHeader_of_clean owed, if_neg notBad, kind]
      exact goesOn
  · rw [State.headerRead, if_neg (by simp [io]), if_pos io, if_neg state]
    simp only [State.skipHeader, cur]
    rfl

/-! ## Bodies and gates (R96, R100) -/

theorem Record.hasGate_of_header {c : Record} {h : Header} (hdr : c.hdr = some h) : c.hasGate = h.hasGate := by
  rw [Record.hasGate, hdr]

theorem State.recordFetched_eq {s : State} {i : LaneId} {c : Record} {h : Header} (cur : (s.lane i).cur = some c)
    (hdr : c.hdr = some h) : s.recordFetched i =
      if h.gated = true ∧ h.kind ≠ some .link ∧ h.kind ≠ some .stop then
        if leField c.body 0 8 % 4 = 0 then
          s.setLane i
            { s.lane i with
              state := .gated, io := .idle
              gate := { deadline := leField c.body 12 2, stale := (s.lane i).gate.stale
                        poll := if s.hold = true ∨ (s.lane i).gate.stale = true then .due else .outstanding } }
        else s.failRecord i .badParam
      else s.execute i := by
  simp only [State.recordFetched, cur, Record.hasGate_of_header hdr, Header.hasGate_iff, State.startGate, aligned_iff,
    Record.gateAddr, toNat_addrField, Record.gateTimeout, State.modLane_eq, Bool.or_eq_true]

/-- Settles O33: the body makes the record whole; then its gate, or its execution. -/
theorem recordFetched : Obligations.RecordFetched := by
  refine ⟨fun i h bytes s io state length => next_onLink ?_, fun i s c h cur hdr => State.recordFetched_eq cur hdr⟩
  simp only [State.bodyRead, io, if_pos length, if_neg state, State.modLane_eq, Lane.fetched_eq] <;> rfl

/-! ## Fetches that fail (R153) -/

theorem State.modLane_same {s : State} {i : LaneId} {f : Lane → Lane} (h : f (s.lane i) = s.lane i) :
    s.modLane i f = s := by rw [State.modLane_eq, h, State.setLane_lane]

/-- The record that a lane holds after its header read has failed. -/
def Lane.bare (l : Lane) : Record :=
  l.cur.getD { addr := l.fetchAddr, hdr := none, body := [], ex := ExecState.zero, owed := none }

theorem State.fetchFailed_of_header {s : State} {i : LaneId} {skip : Bool}
    (io : (s.lane i).io = .read (.header skip) true) (state : (s.lane i).state ≠ .abandoning) :
    s.fetchFailed i = (s.modLane i fun l => { l with cur := some l.bare }).failRecord i .hostAccess := by
  simp only [State.fetchFailed, io, if_neg state, Lane.bare]

theorem State.fetchFailed_of_body {s : State} {i : LaneId} {h : Header}
    (io : (s.lane i).io = .read (.body h) true) (state : (s.lane i).state ≠ .abandoning) :
    s.fetchFailed i = (s.modLane i fun l => { l with cur := some (l.fetched h []) }).failRecord i .hostAccess := by
  simp only [State.fetchFailed, io, if_neg state]

/-- Settles O34: the record as the failed read leaves it, which then fails. -/
theorem fetchFailed : Obligations.FetchFailed := by
  intro i s state
  refine ⟨fun skip io => next_onLink ?_, fun h io => next_onLink ?_⟩
  · rw [State.fetchFailed_of_header io state]
    cases cur : (s.lane i).cur with
    | some c =>
      rw [State.modLane_same]
      rw [Lane.bare, cur, Option.getD_some, ← cur]
    | none =>
      rw [State.modLane_eq, Lane.bare, cur, Option.getD_none, Lane.fetchAddr, cur]
  · rw [State.fetchFailed_of_body io state, State.modLane_eq, Lane.fetched_eq] <;> rfl

/-! ## ABANDONING lanes (R125) -/

/-- Settles O35: each read and the poll, ended with its effect dropped. -/
theorem abandonedReadsEnd : Obligations.AbandonedReadsEnd := by
  intro i s state dropped
  refine ⟨fun io => ⟨fun a => next_onLink ?_, next_onLink ?_⟩,
    fun skip io => ⟨fun b => next_onLink ?_, next_onLink ?_⟩,
    fun h io => ⟨fun b length => next_onLink ?_, next_onLink ?_⟩,
    fun io => ⟨fun c cues taken cur batch => next_onLink ?_, next_onLink ?_⟩,
    fun poll => ⟨fun w => next_onLink ?_, next_onLink ?_⟩⟩
  · rw [State.entryRead, if_pos io, if_pos state]; rfl
  · rw [State.entryFailed, if_pos io, if_pos state]; rfl
  · rw [State.headerRead]
    cases skip
    · rw [if_pos io, if_pos state]; rfl
    · rw [if_neg (by simp [io]), if_pos io, if_pos state]; rfl
  · simp only [State.fetchFailed, io, if_pos state]; rfl
  · simp only [State.bodyRead, io, if_pos length, if_pos state]; rfl
  · simp only [State.fetchFailed, io, if_pos state]; rfl
  · simp only [State.intakeDone, if_pos io, cur, CuesBody.ofBytes, Config.batchMax, batch, if_pos state]; rfl
  · rw [State.intakeFailed, if_pos io, if_pos state]; rfl
  · rw [State.pollDone, if_pos poll, if_pos state]; rfl
  · rw [State.pollFailed, if_pos poll, if_pos state]; rfl

/-! ## Gates (R100, R101) -/

/-- Settles O37: the ends of a poll, of the phase and of the gate's time. -/
theorem gateEvents : Obligations.GateEvents := by
  intro i word s c cur gate g
  refine ⟨fun state poll => ⟨next_onLink ?_, next_onLink ?_⟩, fun poll stale => ⟨next_onLink ?_, next_onLink ?_⟩,
    rfl, rfl⟩
  · have value : (s.lane i).gateValue = some word ↔ word.toNat = leField c.body 8 4 := by
      rw [Lane.gateValue, cur, Option.map_some, Option.some.injEq, Record.gateValue_eq_iff]
    rw [State.pollDone, if_pos poll, if_neg state, ite_cond_congr (propext value)]
    rfl
  · rw [State.pollFailed, if_pos poll, if_neg state]
    rfl
  · rw [State.pollDone, if_neg poll, if_pos stale]
    rfl
  · rw [State.pollFailed, if_neg poll, if_pos stale]
    rfl

end Sys2Proof.Machine
end

section
/-! How records execute (R2, R22, R25, R28, R40, R42 to R44, R64, R68, R79, R103 to R108, R159, R160): O38 to O41. -/

namespace Sys2Proof.Machine

open Sys2Proof

/-! ## Execution by kind (R159, R160) -/

theorem State.execute_of_owed {s : State} {i : LaneId} {c : Record} {o : Owed} (cur : (s.lane i).cur = some c)
    (owed : c.owed = some o) : s.execute i = s.retireOwed i c o := by
  simp only [State.execute, cur, owed]

theorem State.execute_of_kind {s : State} {i : LaneId} {c : Record} {k : RecKind} (cur : (s.lane i).cur = some c)
    (owed : c.owed = none) (kind : c.kind = some k) : s.execute i =
      match k with
      | .openRec => s.execOpen i c
      | .closeRec => s.execClose i
      | .cues => s.execCues i c
      | .cue => s.execCue i c
      | .emit => s.execEmit i c
      | .clip => s.execClip i c
      | .mix => s.execMix i c
      | .mark => s.execMark i
      | .link => s.execLink i c
      | .stop => s.execStop i c := by
  simp only [State.execute, cur, owed, kind]
  cases k <;> rfl

/-- Giving places back to the pools and changing a lane do not meet. -/
theorem State.free_setLane (s : State) (i : LaneId) (l m : Lane) (cues clips : Nat) :
    (((s.setLane i l).freeCues cues).freeClips clips).setLane i m = ((s.setLane i m).freeCues cues).freeClips clips := by
  simp [State.setLane, State.freeCues, State.freeClips]

/-! ## OPEN (R2, R22, R64, R103, R104) -/

/-- R2, R22, R64, R103: what makes an OPEN BAD_PARAM. -/
def OpenBody.Bad (b : OpenBody) : Prop :=
  (b.kind ≠ 1 ∧ b.kind ≠ 2) ∨ b.ns = 0 ∨ b.ds = 0 ∨ 2 ^ 47 - 1 < b.offset.natAbs ∨ b.quota = 0
    ∨ (b.kind = 1 ∧ (b.rOut = 0 ∨ 16777215 < b.rOut ∨ b.segDur = 0 ∨ 2 ^ 48 - 1 < b.startPt * b.segDur))
    ∨ (b.kind = 2 ∧ ((b.rOut ≠ 32000 ∧ b.rOut ≠ 44100 ∧ b.rOut ≠ 48000) ∨ b.chans = 0 ∨ 8 < b.chans))

theorem OpenBody.badRate_iff (b : OpenBody) :
    b.badRate = true ↔ b.ns = 0 ∨ b.ds = 0 ∨ 2 ^ 47 - 1 < b.offset.natAbs := by
  simp only [OpenBody.badRate, Bool.or_eq_true, decide_eq_true_iff, or_assoc]

theorem OpenBody.badSubtitle_iff (b : OpenBody) : b.badSubtitle = true ↔
    (b.ns = 0 ∨ b.ds = 0 ∨ 2 ^ 47 - 1 < b.offset.natAbs) ∨ b.rOut = 0 ∨ 16777215 < b.rOut ∨ b.segDur = 0
      ∨ 2 ^ 48 - 1 < b.startPt * b.segDur ∨ b.quota = 0 := by
  have time : maxTime = 2 ^ 48 - 1 := rfl
  simp only [OpenBody.badSubtitle, Bool.or_eq_true, decide_eq_true_iff, OpenBody.badRate_iff, or_assoc, time]

theorem OpenBody.badDescription_iff (b : OpenBody) : b.badDescription = true ↔
    (b.ns = 0 ∨ b.ds = 0 ∨ 2 ^ 47 - 1 < b.offset.natAbs) ∨ (b.rOut ≠ 32000 ∧ b.rOut ≠ 44100 ∧ b.rOut ≠ 48000)
      ∨ b.quota = 0 ∨ b.chans = 0 ∨ 8 < b.chans := by
  simp [OpenBody.badDescription, OpenBody.badRate_iff, or_assoc]

theorem OpenBody.accepted_eq (b : OpenBody) [Decidable b.Bad] : b.accepted =
    if b.Bad then none
    else if b.kind = 1 then some (.subtitle, b.subtitleParams) else some (.description, b.descriptionParams) := by
  by_cases one : b.kind = 1
  · have kind : b.laneKind = some .subtitle := by rw [OpenBody.laneKind, one]; rfl
    have bad : b.badSubtitle = true ↔ b.Bad := by
      rw [OpenBody.badSubtitle_iff, OpenBody.Bad]
      simp only [one]
      tauto
    simp only [OpenBody.accepted, kind, bad, if_pos one]
  · by_cases two : b.kind = 2
    · have kind : b.laneKind = some .description := by rw [OpenBody.laneKind, two]; rfl
      have bad : b.badDescription = true ↔ b.Bad := by
        rw [OpenBody.badDescription_iff, OpenBody.Bad]
        simp only [two]
        tauto
      simp only [OpenBody.accepted, kind, bad, if_neg one]
    · have kind : b.laneKind = none := by
        unfold OpenBody.laneKind
        split
        · next h => exact absurd h one
        · next h => exact absurd h two
        · rfl
      rw [if_pos (show b.Bad from .inl ⟨one, two⟩), OpenBody.accepted, kind]

theorem Policy.ofCode_eq (n : Nat) :
    Policy.ofCode n = if n = 0 then .count else if n = 1 then .notice else .halt := by
  unfold Policy.ofCode
  split <;> simp_all

theorem policyTable_eq (field : Nat) : policyTable field = Vector.ofFn (fun k : Fin 14 =>
    if field / 4 ^ k.val % 4 = 0 then .count else if field / 4 ^ k.val % 4 = 1 then .notice else .halt) := by
  simp only [policyTable, Policy.ofCode_eq]

/-- Settles O38: the checks, then the lane as it is opened. -/
theorem openExecuted : Obligations.OpenExecuted := by
  intro i s c cur owed kind b bad
  have execute : s.execute i = s.execOpen i c := State.execute_of_kind cur owed kind
  have : Decidable b.Bad := Classical.propDecidable _
  refine ⟨fun isBad => ?_, fun good => ?_⟩
  · rw [execute, State.execOpen, OpenBody.accepted_eq, if_pos (show b.Bad from isBad)]
  · intro sub l
    rw [execute, State.execOpen, OpenBody.accepted_eq, if_neg (show ¬ b.Bad from good)]
    by_cases one : b.kind = 1
    · have isSub : sub = true := decide_eq_true one
      have lane : ((s.lane i).opened .subtitle b.subtitleParams).withEx (fun _ => ExecState.zero) = l := by
        simp only [l, isSub, Lane.opened, Lane.withEx, cur, OpenBody.subtitleParams, policyTable_eq]
        rfl
      rw [if_pos one, ← lane]
      rfl
    · have isSub : sub = false := decide_eq_false one
      have lane : ((s.lane i).opened .description b.descriptionParams).withEx (fun _ => ExecState.zero) = l := by
        simp only [l, isSub, Lane.opened, Lane.withEx, cur, OpenBody.descriptionParams, policyTable_eq]
        rfl
      rw [if_neg one, ← lane]
      rfl

/-! ## CLOSE (R40, R78, R105) -/

theorem countAll_leftovers {v : Vector Nat 14} (n : Nat) (fits : v.get 13 ≤ maxCount) :
    countAll v (List.replicate n .leftover) = v.set 13 (min (v.get 13 + n) maxCount) := by
  induction n generalizing v with
  | zero =>
    rw [Nat.add_zero, Nat.min_eq_left fits]
    simp [countAll, Vector.get_eq_getElem]
  | succ n ih =>
    have one : countOne v .leftover = v.set 13 (min (v.get 13 + 1) maxCount) := rfl
    rw [List.replicate_succ]
    change countAll (countOne v .leftover) _ = _
    have bumped : (v.set 13 (min (v.get 13 + 1) maxCount)).get 13 = min (v.get 13 + 1) maxCount :=
      Vector.getElem_set_self _
    rw [one, ih (by rw [bumped]; exact Nat.min_le_right _ _), bumped, Vector.set_set]
    congr 1
    omega

theorem markAll_leftovers (b : BitVec 16) (n : Nat) :
    markAll b (List.replicate n .leftover) = if n = 0 then b else b ||| 0x2000#16 := by
  have bit : NoteKind.leftover.bit = 0x2000#16 := by decide
  induction n generalizing b with
  | zero => rfl
  | succ n ih =>
    rw [List.replicate_succ]
    change markAll (b ||| NoteKind.leftover.bit) _ = _
    rw [ih, bit, if_neg (Nat.succ_ne_zero n), BitVec.or_assoc, BitVec.or_self, ite_self]

theorem haltCalled_leftovers (p : Params) (n : Nat) :
    haltCalled p (List.replicate n .leftover) = true ↔ 0 < n ∧ p.policy.get 13 = .halt := by
  simp only [haltCalled, List.any_replicate, Nat.pos_iff_ne_zero]
  by_cases none : n = 0
  · simp [none]
  · rw [if_neg none, decide_eq_true_iff]
    exact (and_iff_right none).symm

/-- Settles O39: the freed entries credited together, then the retirement or the halt. -/
theorem closeExecuted : Obligations.CloseExecuted := by
  intro i s c cur owed kind n notes x halts l t
  have execute : s.execute i = s.execClose i := State.execute_of_kind cur owed kind
  have lane (fits : (s.lane i).counters.get 13 ≤ 4294967295) :
      ((s.lane i).closed.withEx fun x => { x with progress := n }).credit (List.replicate n .leftover) = l none := by
    have counters := countAll_leftovers (v := (s.lane i).counters) n fits
    obtain ⟨addr, hdr, body, ex, o⟩ := c
    obtain rfl : o = none := owed
    simp only [l, x, notes, Lane.credit, Lane.withEx, Lane.closed, cur, counters, Option.map_some, Record.withEx,
      ExecState.mark, markAll_leftovers]
    rfl
  refine ⟨fun not fits => ?_, fun halt fits => ?_⟩
  · rw [execute, State.execClose]
    dsimp only
    rw [if_neg ((haltCalled_leftovers _ n).not.mpr not), lane fits]
    refine (State.retireDone_eq (c := { c with ex := x, owed := none }) ?_).trans rfl
    simp [l]
  · rw [execute, State.execClose]
    dsimp only
    rw [if_pos ((haltCalled_leftovers _ n).mpr halt), lane fits, State.modLane_eq, State.free_setLane]
    simp only [State.lane_freeClips, State.lane_freeCues, State.lane_setLane_same]
    rfl

/-! ## MARK, LINK and STOP (R106 to R108) -/

/-- Settles O40: each of the three by its rule. -/
theorem markLinkStopExecuted : Obligations.MarkLinkStopExecuted := by
  intro i s c cur owed target
  refine ⟨fun kind => ?_, fun kind => ?_, fun kind pending => ?_, fun kind pending => ?_⟩
  · rw [State.execute_of_kind cur owed kind]
    dsimp only
    rw [State.execMark, State.modLane_eq, Lane.withEx, cur]
    rfl
  · rw [State.execute_of_kind cur owed kind]
    dsimp only
    have pass : s.startSeq i .fetching .linkPass [resumeStep s i target] (!s.hold) =
        s.setLane i { s.lane i with state := .fetching, io := newSeq s .linkPass [resumeStep s i target] } :=
      State.startSeq_of_write ⟨_, _, _, _, rfl⟩
    rw [← pass]
    simp only [State.execLink, aligned_eq_false_iff]
    rfl
  · rw [State.execute_of_kind cur owed kind]
    dsimp only
    rw [State.execStop, if_pos pending]
    simp [State.modLane_eq, State.startRead_eq]
  · rw [State.execute_of_kind cur owed kind]
    dsimp only
    rw [State.execStop, if_neg (by simp [pending])]
    refine (State.startSeq_of_write ⟨_, _, _, _, rfl⟩).trans ?_
    simp only [State.modLane_eq, State.lane_setLane_same, State.setLane_setLane]
    rfl

/-! ## CUES, CUE, EMIT, CLIP and MIX (R25, R28, R42 to R44, R68, R79, R159, R160) -/

theorem largestEnd_eq (store : List CueEntry) : largestEnd store = (store.map CueEntry.stop).foldl max 0 := by
  rw [List.foldl_map, largestEnd]

theorem leNat_take (b : List Byte) (n : Nat) : leNat (b.take n) = leNat b % 256 ^ n := by
  induction b generalizing n with
  | nil => simp [leNat]
  | cons x xs ih =>
    cases n with
    | zero => simp [leNat, Nat.mod_one]
    | succ n =>
      have low : x.toNat < 256 := x.isLt
      have rest : (x.toNat + 256 * leNat xs) / 256 = leNat xs := by omega
      rw [List.take_succ_cons, leNat, leNat, ih, Nat.pow_succ', Nat.mod_mul, rest]
      omega

theorem leNat_drop (b : List Byte) (n : Nat) : leNat (b.drop n) = leNat b / 256 ^ n := by
  induction b generalizing n with
  | nil => simp [leNat]
  | cons x xs ih =>
    cases n with
    | zero => simp
    | succ n =>
      have low : x.toNat < 256 := x.isLt
      rw [List.drop_succ_cons, leNat, ih, Nat.pow_succ', ← Nat.div_div_eq_div_mul]
      congr 1
      omega

theorem leField_eq (b : List Byte) (off n : Nat) : leField b off n = leNat b / 256 ^ off % 256 ^ n := by
  rw [leField, leNat_take, leNat_drop]

theorem toNat_inlineFixed (b : List Byte) : (inlineCue b).fixed.toNat = leField b 0 16 := by
  rw [inlineCue, BitVec.toNat_ofNat, leField_eq, leNat_take]
  simp

theorem cueTextLen_inlineCue (b : List Byte) : cueTextLen (inlineCue b) = leField b 14 2 := by
  rw [cueTextLen, BitVec.extractLsb'_toNat, toNat_inlineFixed, leField_eq, leField_eq, Nat.shiftRight_eq_div_pow]
  omega

theorem State.enqueue_eq (s : State) (i : LaneId) :
    s.enqueue i = s.setLane i { s.lane i with state := .queued, io := .idle } := rfl

theorem State.execCues_eq {s : State} {i : LaneId} {c : Record} (cur : (s.lane i).cur = some c) :
    s.execCues i c =
      if leField c.fields 12 2 = 0 ∨ leField c.fields 0 8 % 8 ≠ 0 then s.failRecord i .badParam
      else if leField c.fields 12 2 ≤ c.ex.progress then s.retireDone i
      else if leField c.fields 8 4 < c.ex.cursor + 16 then s.failRecord i .badParam
      else s.setLane i
        { s.lane i with state := .waitData, intake := [], overrun := false, io := .read .intake (!s.hold) } := by
  have overruns : (s.lane i).cur.any Record.intakeOverruns = true ↔ leField c.fields 8 4 < c.ex.cursor + 16 := by
    rw [cur]
    exact decide_eq_true_iff
  simp only [State.execCues, CuesBody.ofBytes, aligned_eq_false_iff, toNat_addrField, State.nextIntake, overruns,
    State.modLane_eq, State.startRead_eq, State.lane_setLane_same, State.setLane_setLane]
  rfl

theorem State.execCue_eq (s : State) (i : LaneId) (c : Record) : s.execCue i c =
    if c.ex.progress = 1 then s.retireDone i
    else if 16 ≤ c.fields.length ∧ 16 + leField c.fields 14 2 ≤ c.fields.length then
      s.setLane i { s.lane i with state := .queued, io := .idle }
    else s.failRecord i .badParam := by
  have fits : inlineFits c.fields = true ↔ 16 ≤ c.fields.length ∧ 16 + leField c.fields 14 2 ≤ c.fields.length := by
    rw [inlineFits, Bool.and_eq_true, decide_eq_true_iff, decide_eq_true_iff, cueTextLen_inlineCue]
  simp only [State.execCue, fits, State.enqueue_eq]

theorem not_aligned_iff (a : Addr) (n : Nat) : (!aligned a n) = true ↔ a.toNat % n ≠ 0 := by
  rw [Bool.not_eq_true', aligned_eq_false_iff]

theorem State.execClip_eq (s : State) (i : LaneId) (c : Record) : s.execClip i c =
    if c.ex.progress = 1 then s.retireDone i
    else if leField c.fields 0 8 % 2 ≠ 0 ∨ leField c.fields 16 3 = 0 then s.failRecord i .badParam
    else s.setLane i { s.lane i with state := .queued, io := .idle } := by
  have bad : (ClipBody.ofBytes c.fields).bad = true ↔ leField c.fields 0 8 % 2 ≠ 0 ∨ leField c.fields 16 3 = 0 := by
    rw [ClipBody.bad, Bool.or_eq_true, not_aligned_iff, decide_eq_true_iff, ClipBody.ofBytes, toNat_addrField]
  simp only [State.execClip, bad, State.enqueue_eq]

/-- R43: the through-index of an EMIT: `0 - 1` on an empty store is 0, which no EMIT with ALL set comes to use. -/
def emitThrough (l : Lane) (b : List Byte) : Nat :=
  if (byteAt b 20).getLsbD 0 then ((l.store.map CueEntry.stop).foldl max 0 - 1) / l.par.segDur else leField b 0 8

theorem EmitBody.badArea_iff (b : List Byte) : (EmitBody.ofBytes b).badArea = true ↔
    leField b 8 8 % 8 ≠ 0 ∨ leField b 16 4 < 8 ∨ 4294967288 < leField b 16 4 ∨ leField b 16 4 % 8 ≠ 0 := by
  rw [EmitBody.badArea, Bool.or_eq_true, Bool.or_eq_true, Bool.or_eq_true, not_aligned_iff, decide_eq_true_iff,
    decide_eq_true_iff, decide_eq_true_iff, EmitBody.ofBytes, toNat_addrField, or_assoc, or_assoc]

theorem throughIndex_eq (l : Lane) (b : List Byte) : throughIndex l (EmitBody.ofBytes b) =
    if (byteAt b 20).getLsbD 0 = true ∧ l.store = [] then none else some (emitThrough l b) := by
  simp only [throughIndex, EmitBody.ofBytes, emitThrough, largestEnd_eq, List.isEmpty_iff]
  by_cases all : (byteAt b 20).getLsbD 0 = true
  · simp only [all, if_true, true_and]
  · simp only [all, if_false, false_and, Bool.false_eq_true]

theorem State.execEmit_eq {s : State} {i : LaneId} {c : Record} (cur : (s.lane i).cur = some c) :
    let b := c.fields
    let k := emitThrough (s.lane i) b
    let t : State := s.setLane i { s.lane i with cur := some { c with ex := { c.ex with through := k } } }
    s.execEmit i c =
      if leField b 8 8 % 8 ≠ 0 ∨ leField b 16 4 < 8 ∨ 4294967288 < leField b 16 4 ∨ leField b 16 4 % 8 ≠ 0 then
        s.failRecord i .badParam
      else if (byteAt b 20).getLsbD 0 = true ∧ (s.lane i).store = [] then s.retireDone i
      else if k < (s.lane i).nextSeg then t.retireDone i
      else if maxTime < k * (s.lane i).par.segDur then t.failRecord i .badParam
      else t.setLane i { t.lane i with state := .queued, io := .idle } := by
  intro b k t
  simp only [State.execEmit, EmitBody.badArea_iff, throughIndex_eq]
  by_cases empty : (byteAt b 20).getLsbD 0 = true ∧ (s.lane i).store = []
  · rw [if_pos empty, if_pos empty]
  · have through : s.modLane i (fun l => l.withEx fun x => { x with through := emitThrough (s.lane i) c.fields }) = t := by
      rw [State.modLane_eq, Lane.withEx, cur]
      rfl
    rw [if_neg empty, if_neg empty]
    dsimp only
    rw [through]
    rfl

theorem MixBody.bad_iff (b : List Byte) (m p : Nat) : (MixBody.ofBytes b).bad m p = true ↔
    leField b 0 8 % 2 ≠ 0 ∨ leField b 8 8 % 2 ≠ 0 ∨ leField b 16 3 = 0 ∨ maxTime + p < m + leField b 16 3 := by
  rw [MixBody.bad, Bool.or_eq_true, Bool.or_eq_true, Bool.or_eq_true, not_aligned_iff, not_aligned_iff,
    decide_eq_true_iff, decide_eq_true_iff, MixBody.ofBytes, toNat_addrField, toNat_addrField, or_assoc, or_assoc]

/-- Settles O41: each kind of record with a unit by its rule. -/
theorem unitRecordsBegin : Obligations.UnitRecordsBegin := by
  intro i s c cur b
  refine ⟨fun o owed => ?_, fun owed kind => ?_, fun owed kind => ?_, fun owed kind => ?_, fun owed kind => ?_,
    fun owed kind => ?_⟩
  · rw [State.execute_of_owed cur owed, State.retireOwed_eq]
  · exact (State.execute_of_kind cur owed kind).trans (State.execCues_eq cur)
  · exact (State.execute_of_kind cur owed kind).trans (State.execCue_eq s i c)
  · exact (State.execute_of_kind cur owed kind).trans (State.execClip_eq s i c)
  · exact (State.execute_of_kind cur owed kind).trans (State.execEmit_eq cur)
  · intro p f t
    rw [State.execute_of_kind cur owed kind]
    dsimp only
    simp only [State.execMix, MixBody.bad_iff]
    rfl

end Sys2Proof.Machine
end

section
/-! Intake and the ends of the Timing Engine's units (R26 to R29, R37 to R39, R53 to R59, R69 to R75): O42, O44, O45,
O47, O48. -/

namespace Sys2Proof.Machine

open Sys2Proof

/-! ## The batch an intake read takes (R26, R27) -/

/-- The byte offset of cue `n` of a run of cues that begins at the offset `off`. -/
def cueOffset (off : Nat) (cues : List RawCue) (n : Nat) : Nat :=
  off + ((cues.take n).map (fun c => 16 + (cueTextLen c + 7) / 8 * 8)).sum

/-- The first `n` cues lie within the byte length and hold the text that the read asks for. -/
def CuesRead (byteLen off : Nat) (cues : List RawCue) (n : Nat) : Prop :=
  ∀ (j : Nat) (c : RawCue), j < n → cues[j]? = some c →
    cueOffset off cues j + 16 + cueTextLen c ≤ byteLen ∧ c.text.length = min (cueTextLen c) 241

/-- What a completed read of up to `m` cues takes: all it asks for, or what stands before a fixed part or a text that
overruns. -/
def TakesBatch (byteLen m off : Nat) (cues batch : List RawCue) (ended : Bool) : Prop :=
  (ended = false ∧ batch = cues ∧ cues.length = m ∧ CuesRead byteLen off cues m)
    ∨ (ended = true ∧ batch = cues ∧ cues.length < m ∧ CuesRead byteLen off cues cues.length
        ∧ byteLen < cueOffset off cues cues.length + 16)
    ∨ (ended = true ∧ batch.length < m ∧ CuesRead byteLen off cues batch.length ∧ ∃ c, cues = batch ++ [c]
        ∧ cueOffset off cues batch.length + 16 ≤ byteLen
        ∧ byteLen < cueOffset off cues batch.length + 16 + cueTextLen c)

@[simp] theorem cueOffset_zero (off : Nat) (cues : List RawCue) : cueOffset off cues 0 = off := rfl

theorem cueOffset_cons (off : Nat) (c : RawCue) (cues : List RawCue) (n : Nat) :
    cueOffset off (c :: cues) (n + 1) = cueOffset (off + cueSize c) cues n := by
  simp [cueOffset, cueSize, round8_eq, Nat.add_assoc]

theorem cuesRead_zero (byteLen off : Nat) (cues : List RawCue) : CuesRead byteLen off cues 0 := nofun

theorem cuesRead_cons (byteLen off : Nat) (c : RawCue) (cues : List RawCue) (n : Nat) :
    CuesRead byteLen off (c :: cues) (n + 1) ↔
      (off + 16 + cueTextLen c ≤ byteLen ∧ c.text.length = min (cueTextLen c) 241)
        ∧ CuesRead byteLen (off + cueSize c) cues n := by
  constructor
  · exact fun read => ⟨read 0 c (Nat.succ_pos n) rfl, fun j d lt get => by
      rw [← cueOffset_cons off c cues j]
      exact read (j + 1) d (Nat.succ_lt_succ lt) get⟩
  · rintro ⟨first, rest⟩ (_ | j) d lt get
    · obtain rfl : c = d := by simpa using get
      exact first
    · rw [cueOffset_cons]
      exact rest j d (Nat.lt_of_succ_lt_succ lt) get

theorem takesBatch_zero (byteLen off : Nat) (cues batch : List RawCue) (ended : Bool) :
    TakesBatch byteLen 0 off cues batch ended ↔ ended = false ∧ batch = [] ∧ cues = [] := by
  constructor
  · rintro (⟨rfl, rfl, none, -⟩ | ⟨-, -, lt, -⟩ | ⟨-, lt, -⟩)
    · exact ⟨rfl, List.length_eq_zero_iff.mp none, List.length_eq_zero_iff.mp none⟩
    · exact absurd lt (Nat.not_lt_zero _)
    · exact absurd lt (Nat.not_lt_zero _)
  · rintro ⟨rfl, rfl, rfl⟩
    exact .inl ⟨rfl, rfl, rfl, cuesRead_zero byteLen off []⟩

/-- No fixed part is left within the byte length: nothing is read. -/
theorem takesBatch_of_overrun {byteLen m off : Nat} {cues batch : List RawCue} {ended : Bool}
    (overrun : byteLen < off + 16) :
    TakesBatch byteLen (m + 1) off cues batch ended ↔ ended = true ∧ batch = [] ∧ cues = [] := by
  have unread {c : RawCue} {cs : List RawCue} {n : Nat} : ¬ CuesRead byteLen off (c :: cs) (n + 1) := fun read => by
    have := ((cuesRead_cons byteLen off c cs n).mp read).1.1
    omega
  constructor
  · rintro (⟨-, -, length, read⟩ | ⟨rfl, rfl, -, read, -⟩ | ⟨-, -, read, c, rfl, fits, -⟩)
    · cases cues with
      | nil => simp at length
      | cons c cs => exact absurd read unread
    · cases batch with
      | nil => exact ⟨rfl, rfl, rfl⟩
      | cons c cs => exact absurd read unread
    · cases batch with
      | nil => exact absurd overrun (Nat.not_lt.mpr fits)
      | cons c cs => exact absurd read unread
  · rintro ⟨rfl, rfl, rfl⟩
    exact .inr (.inl ⟨rfl, rfl, Nat.succ_pos m, cuesRead_zero byteLen off [], overrun⟩)

/-- A fixed part lies within the byte length, and no cue has come. -/
theorem not_takesBatch_nil {byteLen m off : Nat} {batch : List RawCue} {ended : Bool} (fits : off + 16 ≤ byteLen) :
    ¬ TakesBatch byteLen (m + 1) off [] batch ended := by
  rintro (⟨-, -, length, -⟩ | ⟨-, -, -, -, overrun⟩ | ⟨-, -, -, c, eq, -⟩)
  · simp at length
  · simp only [List.length_nil, cueOffset_zero] at overrun
    omega
  · simp at eq

/-- The text of the first cue overruns: it stands last, and the batch is empty. -/
theorem takesBatch_of_textOverrun {byteLen m off : Nat} {c : RawCue} {cs batch : List RawCue} {ended : Bool}
    (fits : off + 16 ≤ byteLen) (overrun : byteLen < off + 16 + cueTextLen c) :
    TakesBatch byteLen (m + 1) off (c :: cs) batch ended ↔ ended = true ∧ batch = [] ∧ cs = [] := by
  have unread {n : Nat} : ¬ CuesRead byteLen off (c :: cs) (n + 1) := fun read => by
    have := ((cuesRead_cons byteLen off c cs n).mp read).1.1
    omega
  constructor
  · rintro (⟨-, -, length, read⟩ | ⟨-, -, -, read, -⟩ | ⟨rfl, -, read, d, eq, -⟩)
    · exact absurd read unread
    · exact absurd read unread
    · cases batch with
      | nil => exact ⟨rfl, rfl, (List.cons.inj eq).2⟩
      | cons x xs => exact absurd read unread
  · rintro ⟨rfl, rfl, rfl⟩
    exact .inr (.inr ⟨rfl, Nat.succ_pos m, cuesRead_zero byteLen off _, c, rfl, fits, overrun⟩)

/-- The first cue lies within the byte length: it is taken when it holds its text, and the rest are judged from its end. -/
theorem takesBatch_cons {byteLen m off : Nat} {c : RawCue} {cs batch : List RawCue} {ended : Bool}
    (fits : off + 16 + cueTextLen c ≤ byteLen) :
    TakesBatch byteLen (m + 1) off (c :: cs) batch ended ↔
      c.text.length = min (cueTextLen c) 241
        ∧ ∃ rest, batch = c :: rest ∧ TakesBatch byteLen m (off + cueSize c) cs rest ended := by
  constructor
  · rintro (⟨rfl, rfl, length, read⟩ | ⟨rfl, rfl, lt, read, overrun⟩ | ⟨rfl, lt, read, d, eq, fixed, overrun⟩)
    · obtain ⟨⟨-, text⟩, rest⟩ := (cuesRead_cons byteLen off c cs m).mp read
      exact ⟨text, cs, rfl, .inl ⟨rfl, rfl, Nat.succ.inj length, rest⟩⟩
    · obtain ⟨⟨-, text⟩, rest⟩ := (cuesRead_cons byteLen off c cs cs.length).mp read
      rw [List.length_cons, cueOffset_cons] at overrun
      exact ⟨text, cs, rfl, .inr (.inl ⟨rfl, rfl, Nat.lt_of_succ_lt_succ lt, rest, overrun⟩)⟩
    · cases batch with
      | nil =>
        obtain ⟨rfl, -⟩ := List.cons.inj eq
        exact absurd overrun (Nat.not_lt.mpr fits)
      | cons x xs =>
        obtain ⟨rfl, rfl⟩ := List.cons.inj eq
        obtain ⟨⟨-, text⟩, rest⟩ := (cuesRead_cons byteLen off c _ xs.length).mp read
        rw [List.length_cons, cueOffset_cons] at fixed overrun
        exact ⟨text, xs, rfl, .inr (.inr ⟨rfl, Nat.lt_of_succ_lt_succ lt, rest, d, rfl, fixed, overrun⟩)⟩
  · rintro ⟨text, rest, rfl, (⟨rfl, rfl, length, read⟩ | ⟨rfl, rfl, lt, read, overrun⟩ | ⟨rfl, lt, read, d, rfl, fixed, overrun⟩)⟩
    · exact .inl ⟨rfl, rfl, congrArg Nat.succ length, (cuesRead_cons byteLen off c _ m).mpr ⟨⟨fits, text⟩, read⟩⟩
    · refine .inr (.inl ⟨rfl, rfl, Nat.succ_lt_succ lt, (cuesRead_cons byteLen off c _ _).mpr ⟨⟨fits, text⟩, read⟩, ?_⟩)
      rwa [List.length_cons, cueOffset_cons]
    · refine .inr (.inr ⟨rfl, Nat.succ_lt_succ lt, (cuesRead_cons byteLen off c _ _).mpr ⟨⟨fits, text⟩, read⟩, d, rfl, ?_⟩)
      rw [List.length_cons, cueOffset_cons]
      exact ⟨fixed, overrun⟩

theorem takeBatch_eq_some_iff (byteLen m off : Nat) (cues batch : List RawCue) (ended : Bool) :
    takeBatch byteLen m off cues = some (batch, ended) ↔ TakesBatch byteLen m off cues batch ended := by
  induction m generalizing off cues batch with
  | zero =>
    rw [takesBatch_zero]
    cases cues <;> simp [takeBatch, and_comm, eq_comm]
  | succ m ih =>
    rw [takeBatch.eq_def]
    dsimp only
    by_cases overrun : byteLen < off + 16
    · rw [takesBatch_of_overrun overrun, if_pos overrun]
      cases cues <;> simp [and_comm, eq_comm]
    · have fits := Nat.not_lt.mp overrun
      rw [if_neg overrun]
      cases cues with
      | nil => simpa using not_takesBatch_nil fits
      | cons c cs =>
        dsimp only
        by_cases textOverrun : byteLen < off + 16 + cueTextLen c
        · rw [takesBatch_of_textOverrun fits textOverrun, if_pos textOverrun]
          cases cs <;> simp [and_comm, eq_comm]
        · rw [takesBatch_cons (Nat.not_lt.mp textOverrun), if_neg textOverrun]
          by_cases text : c.text.length = min (cueTextLen c) 241
          · simp only [text, true_and, ← ih]
            cases takeBatch byteLen m (off + cueSize c) cs with
            | none => simp
            | some r => simp [and_comm, eq_comm, Prod.ext_iff]
          · simp [text]

/-- R26, R27: an intake read completes with a batch on a lane that is not ABANDONING. -/
theorem State.intakeDone_eq {s : State} {i : LaneId} {c : Record} {cues batch : List RawCue} {ended : Bool}
    (io : (s.lane i).io = .read .intake true) (cur : (s.lane i).cur = some c) (state : (s.lane i).state ≠ .abandoning)
    (takes : takeBatch (leField c.fields 8 4) (min 8 (leField c.fields 12 2 - c.ex.progress)) c.ex.cursor cues =
      some (batch, ended)) :
    s.intakeDone i cues =
      if batch = [] then (s.dropRead i).failRecord i .badParam
      else s.modLane i (fun l => { l with state := .queued, io := .idle, intake := batch, overrun := ended }) := by
  have takes' : takeBatch (CuesBody.ofBytes c.fields).byteLen
      (min Config.batchMax ((CuesBody.ofBytes c.fields).count - c.ex.progress)) c.ex.cursor cues = some (batch, ended) :=
    takes
  simp only [State.intakeDone, io, cur, takes', if_neg state, List.isEmpty_iff, if_true]

/-- Settles O42: the batch by its cases; then the lane with it. -/
theorem intakeEnds : Obligations.IntakeEnds := by
  refine ⟨takeBatch_eq_some_iff, ?_⟩
  intro i cues s c io cur state idle
  refine ⟨fun batch ended takes => ?_, ?_⟩
  · exact next_onLink (State.intakeDone_eq io cur state takes)
  · refine next_onLink ?_
    rw [State.intakeFailed, if_pos io, if_neg state]
    rfl

/-! ## The end of a unit -/

theorem next_onLinkOf {s t u : State} {i : LaneId} {o : Option LaneId} (owner : o = some i) (h : t = u) :
    (.next (s.onLinkOf o t) : Host.Outcome State Fault Refusal) = .next (s.onLink i u) := by
  rw [owner, h, State.onLinkOf_some]

theorem State.unitOwner_eq {s : State} {u : TimingUnit} {i : LaneId} (unit : s.timing.unit = u)
    (owner : s.timing.owner = some i) : s.unitOwner u = some i := by
  rw [State.unitOwner, if_pos unit, owner]

theorem haltCalled_iff (p : Params) (ns : List NoteKind) : haltCalled p ns = true ↔ ∃ k ∈ ns, p.policyOf k = .halt := by
  simp only [haltCalled, List.any_eq_true, decide_eq_true_iff]

theorem State.nextIntake_eq {s : State} {i : LaneId} {c : Record} (cur : (s.lane i).cur = some c) :
    s.nextIntake i =
      if leField c.fields 8 4 < c.ex.cursor + 16 then s.failRecord i .badParam
      else s.setLane i
        { s.lane i with state := .waitData, intake := [], overrun := false, io := .read .intake (!s.hold) } := by
  have overruns : (s.lane i).cur.any Record.intakeOverruns = true ↔ leField c.fields 8 4 < c.ex.cursor + 16 := by
    rw [cur]
    exact decide_eq_true_iff
  simp only [State.nextIntake, overruns, State.modLane_eq, State.startRead_eq, State.lane_setLane_same,
    State.setLane_setLane]
  rfl

/-- R29: the unit-end table. -/
theorem State.afterCueUnit_eq {s : State} {i : LaneId} {c : Record} (w : CueWork) (cur : (s.lane i).cur = some c) :
    s.afterCueUnit i w =
      if ∃ k ∈ w.notes, (s.lane i).par.policyOf k = .halt then s.retire i .halted .noteHalt
      else if w.refused then s.retire i .partialDone .storeFull
      else if (s.lane i).overrun then s.retire i .failed .badParam
      else if (if c.kind = some .cue then 1 else leField c.fields 12 2) ≤ c.ex.progress then
        s.retire i (if c.ex.notes = 0 then .done else .noted) .none
      else if leField c.fields 8 4 < c.ex.cursor + 16 then s.failRecord i .badParam
      else s.setLane i
        { s.lane i with state := .waitData, intake := [], overrun := false, io := .read .intake (!s.hold) } := by
  rw [State.afterCueUnit]
  simp only [cur, State.nextIntake_eq cur, State.retireDone_eq cur]
  exact if_congr (haltCalled_iff _ _) rfl rfl

theorem Lane.afterCues_eq {l : Lane} {c : Record} (w : CueWork) (cur : l.cur = some c) :
    l.afterCues w =
      { l with
        store := w.store, lastStart := w.lastStart, counters := countAll l.counters w.notes
        cur := some { c with ex := { c.ex with
          progress := c.ex.progress + w.consumed, cursor := w.cursor, notes := markAll c.ex.notes w.notes } } } := by
  simp only [Lane.afterCues, Lane.withEx, Lane.credit, cur, Option.map_some, Record.withEx, ExecState.mark]

/-! ## One cue through allocation, trim and insertion (R37 to R39) -/

theorem passBatch_nil (p : Params) (h : Nat) (w : CueWork) : passBatch p h w [] = w := rfl

theorem passBatch_cons (p : Params) (h : Nat) (w : CueWork) (c : RawCue) (cs : List RawCue) :
    passBatch p h w (c :: cs) = if (passCue p h w c).refused then passCue p h w c else passBatch p h (passCue p h w c) cs :=
  rfl

theorem cueSize_eq (c : RawCue) : cueSize c = 16 + (cueTextLen c + 7) / 8 * 8 := by rw [cueSize, round8_eq]

/-- Settles O44: the unit's changes with the table of its end, the batch cue by cue, and the ways of one cue. -/
theorem cueUnitEnds : Obligations.CueUnitEnds := by
  refine ⟨?_, fun p h w => ⟨passBatch_nil p h w, passBatch_cons p h w⟩, ?_⟩
  · intro s i c unit owner cur l batch w x u count
    refine next_onLinkOf (State.unitOwner_eq unit owner) ?_
    have step : s.cueUnitEnds = if l.state = .abandoning then u else u.afterCueUnit i w := by
      rw [State.cueUnitEnds, State.unitOwner_eq unit owner]
      simp only [cur]
      rw [Lane.afterCues_eq _ cur]
      rfl
    rw [step]
    have lane : u.lane i = { l with
        store := w.store, lastStart := w.lastStart, counters := countAll l.counters w.notes
        cur := some { c with ex := x } } := State.lane_setLane_same _ _ _
    rw [State.afterCueUnit_eq w (congrArg Lane.cur lane), lane]
    rfl
  · intro p h w c r slot cursor
    have size : w.cursor + cueSize c = cursor := by rw [cueSize_eq, ← Nat.add_assoc]
    refine ⟨fun drop => by rw [passCue_of_drop drop, size], ?_⟩
    intro start stop text pass inserted
    refine ⟨fun full => ?_, fun quota free => ⟨fun none => ?_, ?_⟩⟩
    · exact passCue_of_refused pass (by omega)
    · rw [passCue_of_pass pass ⟨quota, free⟩, trimPredecessor_of_le (slot := cueSlot c) none, size]
      rfl
    · intro xs e ys store before same latest ends
      rw [passCue_of_pass pass ⟨quota, free⟩, store, trimPredecessor_of_lt (slot := cueSlot c) before same latest ends, size]
      exact ⟨fun equal => by rw [if_pos equal]; rfl, fun differ => by rw [if_neg differ]; rfl⟩

/-! ## CLIP units (R69 to R75) -/

theorem getLsbD_noteBit (k : NoteKind) (j : Nat) : k.bit.getLsbD j = decide (k.idx.val = j) := by
  have lt : k.idx.val < 16 := k.idx.isLt.trans (by decide)
  rw [NoteKind.bit, BitVec.getLsbD_shiftLeft, BitVec.getLsbD_one]
  by_cases eq : k.idx.val = j
  · subst eq
    simp [lt]
  · simp only [eq, decide_false]
    by_cases small : j < k.idx.val
    · simp [small]
    · have : j - k.idx.val ≠ 0 := by omega
      simp [this]

theorem getLsbD_markAll (b : BitVec 16) (ns : List NoteKind) (j : Nat) :
    (markAll b ns).getLsbD j = true ↔ b.getLsbD j = true ∨ ∃ k ∈ ns, k.idx.val = j := by
  induction ns generalizing b with
  | nil => simp [markAll]
  | cons n ns ih =>
    change (markAll (b ||| n.bit) ns).getLsbD j = true ↔ _
    rw [ih, BitVec.getLsbD_or, getLsbD_noteBit]
    simp [or_assoc]

theorem noteIdx_inj {k n : NoteKind} (h : k.idx = n.idx) : k = n := by
  cases k <;> cases n <;> first | rfl | exact absurd h (by decide)

theorem countAll_get {v : Vector Nat 14} (ns : List NoteKind) {k : NoteKind} (fits : v.get k.idx ≤ maxCount) :
    (countAll v ns).get k.idx = min (v.get k.idx + ns.count k) maxCount := by
  induction ns generalizing v with
  | nil => exact (Nat.min_eq_left fits).symm
  | cons n ns ih =>
    change (countAll (countOne v n) ns).get k.idx = _
    by_cases eq : n = k
    · subst eq
      have bumped : (countOne v n).get n.idx = min (v.get n.idx + 1) maxCount := Vector.getElem_set_self _
      rw [ih (by rw [bumped]; exact Nat.min_le_right _ _), bumped, List.count_cons_self]
      omega
    · have other : (countOne v n).get k.idx = v.get k.idx :=
        Vector.getElem_set_ne _ _ fun h => eq (noteIdx_inj (Fin.ext h))
      rw [ih (by rwa [other]), other, List.count_cons_of_ne eq]

theorem insertClip_eq (e : ClipEntry) {table : List ClipEntry} (sorted : table.Pairwise fun x y => x.start ≤ y.start) :
    insertClip e table = table.filter (fun x => decide (x.start ≤ e.start)) ++ e ::
      table.filter (fun x => decide (e.start < x.start)) := by
  induction table with
  | nil => rfl
  | cons x xs ih =>
    obtain ⟨first, rest⟩ := List.pairwise_cons.mp sorted
    rw [insertClip]
    by_cases lt : e.start < x.start
    · have later : ∀ y ∈ x :: xs, e.start < y.start := List.forall_mem_cons.mpr ⟨lt, fun y hy => lt.trans_le (first y hy)⟩
      rw [if_pos lt, List.filter_eq_nil_iff.mpr fun y hy => by simpa using later y hy,
        List.filter_eq_self.mpr fun y hy => by simpa using later y hy, List.nil_append]
    · rw [if_neg lt, ih rest, List.filter_cons_of_pos (by simpa using Nat.not_lt.mp lt),
        List.filter_cons_of_neg (by simpa using Nat.not_lt.mp lt), List.cons_append]

theorem Lane.afterClip_eq {l : Lane} {c : Record} (table : List ClipEntry) (ns : List NoteKind) (cur : l.cur = some c) :
    l.afterClip table ns =
      { l with
        table := table, counters := countAll l.counters ns
        cur := some { c with ex := { c.ex with progress := 1, notes := markAll c.ex.notes ns } } } := by
  simp only [Lane.afterClip, Lane.withEx, Lane.credit, cur, Option.map_some, Record.withEx, ExecState.mark]

/-- R69, R140: the end of a unit that consumed its clip. -/
theorem State.afterClipUnit_eq {s : State} {i : LaneId} {c : Record} (ns : List NoteKind)
    (cur : (s.lane i).cur = some c) :
    s.afterClipUnit i ns =
      if (s.lane i).state = .abandoning then s
      else if ∃ k ∈ ns, (s.lane i).par.policyOf k = .halt then s.retire i .halted .noteHalt
      else s.retire i (if c.ex.notes = 0 then .done else .noted) .none := by
  rw [State.afterClipUnit, State.retireDone_eq cur]
  exact if_congr Iff.rfl rfl (if_congr (haltCalled_iff _ _) rfl rfl)

theorem clipUnit_eq (l : Lane) (b : ClipBody) (free : Nat) :
    let at_ := placeClip l.par b.time
    let late := at_.1 + b.len ≤ l.mixPos
    let notes := at_.2 ++ (if late ∨ (at_.1 : Int) - b.attack < l.mixPos then [NoteKind.late] else [])
    let crowded := ¬late ∧
      4 ≤ (l.table.filter (fun e => decide (e.start < at_.1 + b.len ∧ at_.1 < e.start + e.len))).length
    clipUnit l b free =
      if late then .dropped notes
      else if crowded then .dropped (notes ++ [.crowded])
      else if l.table.length < l.par.quota ∧ 0 < free then .inserted (b.entry at_.1) notes
      else .refused := by
  intro at_ late notes crowded
  rw [clipUnit]
  dsimp only
  by_cases isLate : late
  · have eq : notes = at_.2 ++ [.late] := by simp [notes, isLate]
    rw [if_pos isLate, if_pos isLate, eq]
  · have eq : notes = at_.2 ++ noteIf (decide ((at_.1 : Int) - b.attack < l.mixPos)) .late := by
      simp [notes, isLate, noteIf_decide]
    have crowd : 4 ≤ overlapCount l.table at_.1 b.len ↔ crowded := by
      simp [crowded, isLate, overlapCount, ClipEntry.overlaps]
    rw [if_neg isLate, if_neg isLate, ← eq]
    exact if_congr crowd rfl (if_congr (poolGrants_iff _ _ _) rfl rfl)

/-- Settles O45: the unit by its four ways; then how arisings are credited and clips inserted. -/
theorem clipUnitEnds : Obligations.ClipUnitEnds := by
  refine ⟨?_, rfl, fun v ns k fits => countAll_get ns fits, getLsbD_markAll, fun e table => insertClip_eq e⟩
  intro s i c unit owner cur l b at_ late notes crowded free consumed
  refine next_onLinkOf (State.unitOwner_eq unit owner) ?_
  have after (table : List ClipEntry) (ns : List NoteKind) (u : State) :
      (u.setLane i (l.afterClip table ns)).afterClipUnit i ns = consumed table ns u := by
    rw [Lane.afterClip_eq table ns cur]
    refine (State.afterClipUnit_eq ns (by rw [State.lane_setLane_same])).trans ?_
    rw [State.lane_setLane_same]
  rw [State.clipUnitEnds, State.unitOwner_eq unit owner]
  simp only [cur]
  have unitEq : clipUnit (s.lane i) (ClipBody.ofBytes c.fields) s.clipFree =
      if late then .dropped notes
      else if crowded then .dropped (notes ++ [.crowded])
      else if l.table.length < l.par.quota ∧ 0 < s.clipFree then .inserted (b.entry at_.1) notes
      else .refused := clipUnit_eq l b s.clipFree
  rw [unitEq]
  by_cases isLate : late
  · rw [if_pos isLate, if_pos isLate]
    exact after _ _ _
  · rw [if_neg isLate, if_neg isLate]
    by_cases isCrowded : crowded
    · rw [if_pos isCrowded, if_pos isCrowded]
      exact after _ _ _
    · rw [if_neg isCrowded, if_neg isCrowded]
      by_cases room : l.table.length < l.par.quota ∧ 0 < s.clipFree
      · rw [if_pos room, if_pos room]
        exact after (insertClip (b.entry at_.1) l.table) notes { free with clipFree := s.clipFree - 1 }
      · rw [if_neg room, if_neg room]
        rfl

/-! ## EMIT units (R53 to R59) -/

/-- The first `n` eligible entries of a store, marked continued by their place in it. -/
theorem markPieces_eq_mapIdx (b0 b1 n : Nat) (store : List CueEntry) :
    markPieces b0 b1 n store = store.mapIdx (fun j e =>
      if e.eligible b0 b1 = true ∧ ((store.take j).filter (CueEntry.eligible b0 b1)).length < n then
        { e with continued := true }
      else e) := by
  induction store generalizing n with
  | nil => cases n <;> rfl
  | cons e es ih =>
    cases n with
    | zero =>
      have plain : markPieces b0 b1 0 es = es := by cases es <;> rfl
      have unmarked := ih 0
      rw [plain] at unmarked
      simp only [markPieces, List.mapIdx_cons, Nat.not_lt_zero, and_false, if_false] at unmarked ⊢
      rw [← unmarked]
    | succ n =>
      rw [markPieces, List.mapIdx_cons]
      by_cases here : e.eligible b0 b1 = true
      · simp only [here, if_true, List.take_zero, List.filter_nil, List.length_nil, Nat.succ_pos, and_self,
          List.take_succ_cons, List.filter_cons_of_pos here, List.length_cons, Nat.add_lt_add_iff_right, ih]
      · simp only [here, if_false, false_and, Bool.false_eq_true, List.take_succ_cons, List.filter_cons_of_neg here, ih]

theorem length_keepAfter_markPieces (b0 b1 n : Nat) (store : List CueEntry) :
    (keepAfter b1 (markPieces b0 b1 n store)).length = (keepAfter b1 store).length := by
  have count (es : List CueEntry) : (keepAfter b1 es).length = ((es.map CueEntry.stop).filter (b1 < ·)).length := by
    rw [List.filter_map, List.length_map]
    rfl
  rw [count, count, map_markPieces CueEntry.stop fun _ => rfl]

theorem firstDiffAt_self (bytes : List Byte) : firstDiffAt bytes bytes = none := by
  induction bytes with
  | nil => rfl
  | cons b bs ih => rw [firstDiffAt, if_pos rfl, ih, Option.map_none]

theorem firstDiffAt_eq {bytes buf : List Byte} {d : Nat} (length : bytes.length = buf.length) (lt : d < buf.length)
    (same : bytes.take d = buf.take d) (differ : bytes[d]? ≠ buf[d]?) : firstDiffAt buf bytes = some d := by
  induction buf generalizing bytes d with
  | nil => simp at lt
  | cons b bs ih =>
    cases bytes with
    | nil => simp at length
    | cons a as =>
      cases d with
      | zero => rw [firstDiffAt, if_neg fun h => differ (by simp [h])]
      | succ d =>
        obtain ⟨rfl, same'⟩ := List.cons.inj (same : a :: as.take d = b :: bs.take d)
        rw [firstDiffAt, if_pos rfl, ih (Nat.succ.inj length) (Nat.lt_of_succ_lt_succ lt) same' (by simpa using differ)]
        rfl

/-- R55, R125: the unit-end table. -/
theorem State.afterSegment_eq {s : State} {i : LaneId} {c : Record} (ns : List NoteKind)
    (cur : (s.lane i).cur = some c) :
    s.afterSegment i ns =
      if (s.lane i).state = .abandoning then s
      else if ∃ k ∈ ns, (s.lane i).par.policyOf k = .halt then s.retire i .halted .noteHalt
      else if c.ex.through < (s.lane i).nextSeg then s.retire i (if c.ex.notes = 0 then .done else .noted) .none
      else s.enqueue i := by
  rw [State.afterSegment]
  simp only [cur, State.retireDone_eq cur]
  exact if_congr Iff.rfl rfl (if_congr (haltCalled_iff _ _) rfl rfl)

theorem State.retire_put (s : State) (i : LaneId) (o : RecOutcome) (why : Reason) (w : LinkWrite) :
    (s.put w).retire i o why = (s.retire i o why).put w := by
  cases cur : (s.lane i).cur with
  | none => simp only [State.retire, State.lane_put, cur]
  | some c =>
    rw [State.retire_eq o why cur, State.retire_eq (s := s.put w) o why cur]
    rfl

@[simp] theorem State.wire_retire (s : State) (i : LaneId) (o : RecOutcome) (why : Reason) :
    (s.retire i o why).wire = s.wire := by
  cases cur : (s.lane i).cur with
  | none => simp only [State.retire, cur]
  | some c => rw [State.retire_eq o why cur]; rfl

theorem State.wire_afterSegment (s : State) (i : LaneId) (ns : List NoteKind) : (s.afterSegment i ns).wire = s.wire := by
  cases cur : (s.lane i).cur with
  | none => simp only [State.afterSegment, cur]
  | some c =>
    rw [State.afterSegment_eq ns cur]
    simp only [apply_ite State.wire, State.wire_retire]
    simp [State.enqueue_eq, State.setLane]

theorem State.afterSegment_put (s : State) (i : LaneId) (ns : List NoteKind) (w : LinkWrite) :
    (s.put w).afterSegment i ns = (s.afterSegment i ns).put w := by
  cases cur : (s.lane i).cur with
  | none => simp only [State.afterSegment, State.lane_put, cur]
  | some c =>
    rw [State.afterSegment_eq ns cur, State.afterSegment_eq (s := s.put w) ns cur]
    simp only [State.retire_put, State.lane_put, apply_ite (fun t : State => t.put w)]
    rfl

/-- A segment's completion does not look at the link. -/
theorem State.segmentDone_put (s : State) (i : LaneId) (diff : Option Nat) (w : LinkWrite) :
    (s.put w).segmentDone i diff = (s.segmentDone i diff).put w :=
  State.afterSegment_put ((s.releaseTiming.setLane i ((s.lane i).completeSegment s.timing.buffer.length diff)).freeCues
    (s.lane i).freedBySegment) i (emitNotes (s.lane i) diff.isSome) w

theorem emitNotes_eq (l : Lane) (diff : Option Nat) :
    emitNotes l diff.isSome = List.replicate
        ((l.store.filter (fun e =>
          decide (e.start < (l.nextSeg + 1) * l.par.segDur ∧ l.nextSeg * l.par.segDur < e.stop))).length - 64) .crowded
      ++ (if diff = none then [] else [.differs]) := by
  rw [emitNotes, leftOut, eligible_eq_decide]
  cases diff <;> rfl

theorem Lane.completeSegment_eq {l : Lane} {c : Record} (size : Nat) (diff : Option Nat) (cur : l.cur = some c) :
    l.completeSegment size diff =
      { l with
        nextSeg := l.nextSeg + 1
        store := keepAfter ((l.nextSeg + 1) * l.par.segDur)
          (markPieces (l.nextSeg * l.par.segDur) ((l.nextSeg + 1) * l.par.segDur) 64 l.store)
        segTotal := min (l.segTotal + 1) 4294967295, counters := countAll l.counters (emitNotes l diff.isSome)
        cur := some { c with ex := { c.ex with
          progress := c.ex.progress + 1, areaOff := c.ex.areaOff + size
          notes := markAll c.ex.notes (emitNotes l diff.isSome)
          diffCount := c.ex.diffCount + (if diff = none then 0 else 1)
          firstDiff := match diff with
            | some d => if c.ex.diffCount = 0 then some (l.nextSeg, c.ex.areaOff + d) else c.ex.firstDiff
            | none => c.ex.firstDiff } } } := by
  cases diff <;>
    simp only [Lane.completeSegment, Lane.withEx, Lane.credit, cur, Option.map_some, Record.withEx, ExecState.mark,
      ExecState.differ] <;> rfl

/-- Settles O47: the segment's completion, then each way to it. -/
theorem segmentCompleted : Obligations.SegmentCompleted := by
  intro s i c bytes owner cur l buf b0 b1 beyond eligible marked stays done
  have marked_eq : markPieces b0 b1 64 l.store = marked := by
    rw [markPieces_eq_mapIdx, eligible_eq_decide]
  have freed : l.freedBySegment = l.store.length - stays.length := by
    rw [Lane.freedBySegment, ← length_keepAfter_markPieces b0 b1 64, marked_eq]
    rfl
  have done_eq (diff : Option Nat) : s.segmentDone i diff = done diff := by
    rw [State.segmentDone, Lane.completeSegment_eq _ diff cur, freed]
    refine (State.afterSegment_eq _ (by rw [State.lane_freeCues, State.lane_setLane_same])).trans ?_
    rw [State.lane_freeCues, State.lane_setLane_same, emitNotes_eq, marked_eq]
    rfl
  refine ⟨fun unit => next_onLinkOf (State.unitOwner_eq unit owner) ?_,
    fun unit same => next_onLinkOf (State.unitOwner_eq unit owner) ?_,
    fun d unit length lt same differ => next_onLinkOf (State.unitOwner_eq unit owner) ?_⟩
  · rw [State.segmentWritten, State.unitOwner_eq unit owner]
    simp only [cur]
    have wire : (done none).wire = s.wire := by
      rw [← done_eq]
      exact State.wire_afterSegment _ _ _
    rw [State.segmentDone_put, done_eq, State.put, wire]
    rfl
  · rw [State.segmentCompared, State.unitOwner_eq unit owner, same]
    exact (if_pos rfl).trans ((congrArg (s.segmentDone i) (firstDiffAt_self buf)).trans (done_eq none))
  · rw [State.segmentCompared, State.unitOwner_eq unit owner]
    exact (if_pos length).trans ((congrArg (s.segmentDone i) (firstDiffAt_eq length lt same differ)).trans
      (done_eq (some d)))

/-- Settles O48: the engine is given up, and the record fails unless the lane is ABANDONING. -/
theorem segmentFails : Obligations.SegmentFails := by
  intro s i c owner cur free fails
  refine ⟨fun unit => next_onLinkOf (State.unitOwner_eq unit owner) ?_,
    fun unit => next_onLinkOf (State.unitOwner_eq unit owner) ?_⟩
  · rw [State.segmentRefused, State.unitOwner_eq unit owner]
    simp only [cur]
    rfl
  · rw [State.compareFailed, State.unitOwner_eq unit owner]
    rfl

end Sys2Proof.Machine
end

section
/-! Programme block reads and the ends of Mix units (R80 to R93): O49, O51, O52. -/

namespace Sys2Proof.Machine

open Sys2Proof

/-! ## The Prefetch Unit (R82) -/

theorem Lane.mayPrefetch_iff (l : Lane) (f : Nat) (hold : Bool) : l.mayPrefetch f hold = true ↔
    (l.state = .waitData ∨ l.state = .queued ∨ l.state = .working)
      ∧ l.pf.outstanding = .none ∧ l.pf.paused = false ∧ l.pf.stopped = false ∧ l.pf.cursor < f ∧ hold = false := by
  simp only [Lane.mayPrefetch, Lane.prefetching, Bool.and_eq_true, Bool.or_eq_true, decide_eq_true_iff,
    Bool.not_eq_true', or_assoc, and_assoc]

theorem State.prefetch_of_mix {s : State} {i : LaneId} {b : MixBody} (mix : (s.lane i).mixBody = some b) :
    s.prefetch i =
      if (s.lane i).mayPrefetch b.frames s.hold then s.modLane i (fun l => { l with pf := l.pf.issue b.frames })
      else s := by
  rw [State.prefetch, mix]

theorem State.prefetch_of_notMix {s : State} {i : LaneId} (mix : (s.lane i).mixBody = none) : s.prefetch i = s := by
  rw [State.prefetch, mix]

/-- A lane that neither waits for data nor is queued nor works has no block prefetched. -/
theorem State.prefetch_of_rest {s : State} {i : LaneId} (rest : (s.lane i).prefetching = false) : s.prefetch i = s := by
  cases mix : (s.lane i).mixBody with
  | none => exact State.prefetch_of_notMix mix
  | some b => rw [State.prefetch_of_mix mix, Lane.mayPrefetch, rest, if_neg (by simp)]

/-- A halt's sequence starts with the write of its rest state, or, where that is HALTED already, hands its notice over. -/
theorem State.startSeq_haltSteps (s u : State) (i j : LaneId) (c : Record) (st : LaneState) (k : SeqKind) (why : Reason)
    (notes : BitVec 16) (progress : Nat) (begun : Bool) :
    let q : WriteSeq := { kind := k, steps := haltSteps u j c why notes progress, begun := begun, failed := false }
    let l : Lane := { s.lane i with state := st, io := .seq q }
    s.startSeq i st k (haltSteps u j c why notes progress) begun = s.setLane i l
      ∨ ∃ n, s.startSeq i st k (haltSteps u j c why notes progress) begun =
          s.setLane i (l.noticeHanded q n (s.pend.getLsbD i.val) s.hold) := by
  intro q l
  rw [State.startSeq_eq_runSeq]
  by_cases waits : begun = false ∨ ∃ w a b rest, q.steps = .write w a b :: rest
  · refine .inl (State.runSeq_of_waiting fun q' io => ?_)
    rw [State.lane_setLane_same] at io
    cases io
    exact waits
  · obtain ⟨running, unwritten⟩ := not_or.mp waits
    have steps : ∃ n, q.steps = [.notice n] := by
      by_cases same : (u.lane j).restLast = .halted
      · exact ⟨_, by simp only [q, haltSteps, restStep, if_pos same, List.nil_append]; rfl⟩
      · exact absurd ⟨_, _, _, _, by simp only [q, haltSteps, restStep, if_neg same]; rfl⟩ unwritten
    obtain ⟨n, steps⟩ := steps
    refine .inr ⟨n, ?_⟩
    rw [State.runSeq_of_notice (q := q) (by rw [State.lane_setLane_same]) (Bool.not_eq_false _ ▸ running) steps,
      State.handNotice_eq, State.lane_setLane_same, State.setLane_setLane]
    rfl

/-- A notice of a halt leaves its lane where it is, or HALTED. -/
theorem Lane.state_noticeHanded_rehalt {l : Lane} {q : WriteSeq} {n : Notice} {pend hold : Bool}
    (state : l.state = .retiring) (kind : q.kind = .rehalt) :
    (l.noticeHanded q n pend hold).state = .retiring ∨ (l.noticeHanded q n pend hold).state = .halted := by
  unfold Lane.noticeHanded
  rw [if_neg (show ¬q.kind = .teardown by rw [kind]; nofun)]
  split_ifs
  · exact .inl state
  · refine .inr ?_
    simp [Lane.eventEnded, state, kind]
  · exact .inl state

/-- A halt on a record with an owed retirement leaves the lane writing it, or HALTED. -/
theorem State.state_failOwed (s : State) (i : LaneId) (c : Record) (o : Owed) (why : Reason) :
    ((s.failOwed i c o why).lane i).state = .retiring ∨ ((s.failOwed i c o why).lane i).state = .halted := by
  rw [State.failOwed_eq]
  obtain eq | ⟨n, eq⟩ := State.startSeq_haltSteps (s.setLane i { (s.lane i).workEnded with haltReason := why }) s i i c
    .retiring .rehalt why o.res.notes o.res.progress (!s.hold)
  · rw [eq, State.lane_setLane_same]
    exact .inl rfl
  · rw [eq, State.lane_setLane_same]
    exact Lane.state_noticeHanded_rehalt rfl rfl

theorem State.prefetching_failRecord {s : State} {i : LaneId} {c : Record} (why : Reason)
    (cur : (s.lane i).cur = some c) : ((s.failRecord i why).lane i).prefetching = false := by
  cases owed : c.owed with
  | none =>
    rw [State.failRecord_of_clean why cur owed, State.retire_eq _ _ cur, State.lane_setLane_same]
    rfl
  | some o =>
    rw [State.failRecord_of_owed why cur owed, Lane.prefetching]
    obtain h | h := State.state_failOwed s i c o why <;> rw [h] <;> rfl

/-! ## The head of the queue (R87) -/

theorem State.judgeHead_of_mix {s : State} {i : LaneId} {b : MixBody} (mix : (s.lane i).mixBody = some b) :
    s.judgeHead i =
      if (s.lane i).state = .waitData then
        match (s.lane i).pf.queue with
        | .read _ _ _ :: _ => s.setLane i { s.lane i with state := .queued, io := .idle }
        | .errored _ :: _ => s.failRecord i .hostAccess
        | [] => s
      else s := by
  rw [State.judgeHead, mix]
  simp only [Option.isSome_some, and_true]
  rfl

theorem State.blockRead_of_live {s : State} {i : LaneId} {bytes : List Byte} {off k : Nat}
    (live : (s.lane i).pf.outstanding = .live off k) (length : bytes.length = 2 * (k * (s.lane i).par.chans)) :
    s.blockRead i bytes =
      ((s.modLane i (fun l => { l with pf := l.pf.join (.read off k (samplesOf bytes)) })).judgeHead i).prefetch i := by
  rw [State.blockRead, live]
  exact if_pos length

theorem State.blockFailed_of_live {s : State} {i : LaneId} {off k : Nat}
    (live : (s.lane i).pf.outstanding = .live off k) :
    s.blockFailed i = (s.modLane i (fun l =>
      { l with pf := { (l.pf.join (.errored off)) with stopped := true } })).judgeHead i := by
  rw [State.blockFailed, live]

theorem State.staleEnded_of_stale {s : State} {i : LaneId} (stale : (s.lane i).pf.outstanding = .stale) :
    s.staleEnded i = (s.setLane i
      { s.lane i with pf := { (s.lane i).pf with outstanding := .none } }).prefetch i := if_pos stale

theorem Prefetch.join_eq (p : Prefetch) (b : QBlock) : p.join b =
    { p with queue := p.queue ++ [b], paused := p.paused || decide (2 ≤ p.queue.length), outstanding := .none } := by
  have full : decide (Config.queueMax ≤ (p.queue ++ [b]).length) = decide (2 ≤ p.queue.length) := by
    rw [List.length_append, decide_eq_decide]
    exact Nat.succ_le_succ_iff
  simp only [Prefetch.join, full]

theorem Lane.prefetching_iff (l : Lane) :
    l.prefetching = true ↔ l.state = .waitData ∨ l.state = .queued ∨ l.state = .working := by
  simp only [Lane.prefetching, Bool.or_eq_true, decide_eq_true_iff, or_assoc]

/-- The judgement of its head leaves a MIX lane with its body, or in a state in which nothing is prefetched. -/
theorem State.judgeHead_body {s : State} {i : LaneId} {b : MixBody} (mix : (s.lane i).mixBody = some b) :
    (((s.judgeHead i).lane i).mixBody = some b ∧ (s.judgeHead i).hold = s.hold)
      ∨ ((s.judgeHead i).lane i).prefetching = false := by
  rw [State.judgeHead_of_mix mix]
  split
  · split
    · rw [State.lane_setLane_same]
      exact .inl ⟨mix, rfl⟩
    · obtain ⟨c, cur, -⟩ := (Lane.mixBody_some_iff _ _).mp mix
      exact .inr (State.prefetching_failRecord _ cur)
    · exact .inl ⟨mix, rfl⟩
  · exact .inl ⟨mix, rfl⟩

/-- Settles O49: the block joins the queue, the lane is judged by its head, and the next read is issued. -/
theorem blockReadsEnd : Obligations.BlockReadsEnd := by
  refine ⟨fun i bytes s b mix => ?_, ?_⟩
  · intro p set judged prefetched
    have bodyOf (q : Prefetch) : ((set q).lane i).mixBody = some b := by
      rw [State.lane_setLane_same]
      exact mix
    have judge (q : Prefetch) : (set q).judgeHead i = judged (set q) := by
      rw [State.judgeHead_of_mix (bodyOf q)]
      exact if_congr (by rw [State.lane_setLane_same]) rfl rfl
    have issue {u : State} (mixU : (u.lane i).mixBody = some b) (hold : u.hold = s.hold) :
        u.prefetch i = prefetched u := by
      rw [State.prefetch_of_mix mixU, hold]
      exact if_congr (Lane.mayPrefetch_iff _ _ _) rfl rfl
    refine ⟨fun off k live length => next_onLink ?_, fun off k live => next_onLink ?_, fun stale => next_onLink ?_⟩
    · rw [State.blockRead_of_live live length, State.modLane_eq, Prefetch.join_eq]
      refine Eq.trans ?_ (congrArg prefetched (judge _))
      obtain ⟨mixU, hold⟩ | rest := State.judgeHead_body (bodyOf _)
      · exact issue mixU hold
      · refine (State.prefetch_of_rest rest).trans (if_neg fun mayIssue => ?_).symm
        rw [(Lane.prefetching_iff _).mpr mayIssue.1] at rest
        exact absurd rest (by decide)
    · rw [State.blockFailed_of_live live, State.modLane_eq, Prefetch.join_eq]
      exact judge _
    · rw [State.staleEnded_of_stale stale]
      exact issue (bodyOf _) rfl
  · intro i s p
    refine ⟨fun stale notMix => next_onLink ?_, fun fresh => next_onLink (if_neg fresh)⟩
    rw [State.staleEnded_of_stale stale]
    refine State.prefetch_of_notMix ?_
    rw [State.lane_setLane_same, ← Option.not_isSome_iff_eq_none, Lane.mixBody_isSome_iff]
    exact notMix

/-! ## The ends of Mix units (R91 to R93) -/

theorem ClipEntry.not_finished_eq (m : Nat) :
    (fun e : ClipEntry => !e.finished m) = fun x => decide (m < x.start + x.len + x.release) := by
  funext e
  rw [ClipEntry.finished, ← decide_not, decide_eq_decide, Nat.not_le]

theorem Lane.completeBlock_eq {l : Lane} {c : Record} (k : Nat) (ns : List NoteKind) (cur : l.cur = some c) :
    l.completeBlock k ns =
      { l with
        mixPos := l.mixPos + k, frmTotal := min (l.frmTotal + k) 4294967295
        table := l.table.filter (fun x => decide (l.mixPos + k < x.start + x.len + x.release))
        pf := { l.pf with queue := l.pf.queue.tail, paused := l.pf.paused && decide (2 ≤ l.pf.queue.tail.length) }
        counters := countAll l.counters ns
        cur := some { c with ex := { c.ex with progress := c.ex.progress + k, notes := markAll c.ex.notes ns } } } := by
  simp only [Lane.completeBlock, ClipEntry.not_finished_eq, Lane.withEx, Lane.credit, cur, Option.map_some, Record.withEx, ExecState.mark]
  rfl

theorem haltCalled_clipped (p : Params) (acc : List Int) : haltCalled p (clippedNotes acc) = true ↔
    List.replicate (acc.filter isClipped).length NoteKind.clipped ≠ [] ∧ p.policyOf .clipped = .halt := by
  rw [haltCalled_iff, clippedNotes]
  cases (acc.filter isClipped).length <;> simp [List.replicate_succ]

/-- R92: the unit-end table. -/
theorem State.afterBlock_eq {s : State} {i : LaneId} {c : Record} (f : Nat) (ns : List NoteKind)
    (cur : (s.lane i).cur = some c) :
    s.afterBlock i f ns =
      if (s.lane i).state = .abandoning then s
      else if haltCalled (s.lane i).par ns then s.retire i .halted .noteHalt
      else if f ≤ c.ex.progress then s.retire i (if c.ex.notes = 0 then .done else .noted) .none
      else ((s.modLane i (fun l => { l with state := .waitData, io := .idle })).judgeHead i).prefetch i := by
  rw [State.afterBlock]
  simp only [cur, State.retireDone_eq cur]

/-- Settles O51: the unit's changes, then the table of its end. -/
theorem mixBlockWritten : Obligations.MixBlockWritten := by
  intro s e i c off k samples rest owner phase cur kind queue l acc f notes m stays x v u
  refine next_onLinkOf owner ?_
  have lane : u.lane i = v := State.lane_setLane_same _ _ _
  have written : s.blockWritten e = u.afterBlock i f notes := by
    simp only [State.blockWritten, owner, Lane.headBlock_of_read queue,
      (Lane.mixBody_some_iff _ _).mpr ⟨c, cur, kind, rfl⟩, if_pos phase]
    rw [Lane.completeBlock_eq k _ cur, queue, Lane.freedByBlock, ClipEntry.not_finished_eq]
    rfl
  rw [written, State.afterBlock_eq f notes (congrArg Lane.cur lane), State.modLane_eq, lane]
  exact if_congr Iff.rfl rfl (if_congr (haltCalled_clipped _ _) rfl rfl)

/-- Settles O52: the engine is given up, and the record fails unless the lane is ABANDONING. -/
theorem mixUnitFails : Obligations.MixUnitFails := by
  intro s e i owner free fails
  refine ⟨fun reading => next_onLinkOf owner ?_, fun c off k samples rest writing cur kind queue => next_onLinkOf owner ?_⟩
  · simp only [State.clipsFailed, owner, if_pos reading]
    rfl
  · simp only [State.blockRefused, owner, Lane.headBlock_of_read queue, (Lane.mixBody_some_iff _ _).mpr ⟨c, cur, kind, rfl⟩,
      if_pos writing]
    rfl

end Sys2Proof.Machine
end

section
/-! The writes of sequences as the link accepts or refuses them, the teardown, and the ends of notice slot writes (R107,
R108, R111 to R115, R126, R127, R144 to R151, R154 to R156): O53 to O56. -/

namespace Sys2Proof.Machine

open Sys2Proof

/-! ## Accepted writes (R111 to R115) -/

theorem SeqKind.ite_finishesRecord {α : Type} (k : SeqKind) (x y : α) :
    (if k.finishesRecord then x else y) =
      match k with
      | .retire r => if r.outcome = .failed ∨ r.outcome = .halted then y else x
      | .linkPass => x
      | _ => y := by
  cases k <;> first | rfl | exact RecOutcome.ite_final _ _ _

theorem Lane.wrote_eq (l : Lane) (q : WriteSeq) (k : WriteKind) : l.wrote q k =
    match k with
    | .resumePoint t =>
      { l with
        next := some t
        cur := match q.kind with
          | .retire r => if r.outcome = .failed ∨ r.outcome = .halted then l.cur else none
          | .linkPass => none
          | _ => l.cur }
    | .restState r => { l with restLast := r }
    | _ => l := by
  cases k with
  | resumePoint t => rw [Lane.wrote, SeqKind.ite_finishesRecord]
  | _ => rfl

/-- How an event ends does not depend on what its sequence held last. -/
theorem Lane.eventEnded_io (l : Lane) (q : WriteSeq) (steps : List SeqStep) (kept hold : Bool)
    (kind : q.kind ≠ .teardown) :
    ({ l with io := .seq { q with steps := steps } } : Lane).eventEnded { q with steps := steps } kept hold =
      l.eventEnded q kept hold := by
  unfold Lane.eventEnded
  dsimp only
  cases h : q.kind with
  | teardown => exact absurd h kind
  | _ => rfl

theorem State.popStep_eq (s : State) (i : LaneId) (q : WriteSeq) {w : SeqStep} {rest : List SeqStep}
    (steps : q.steps = w :: rest) :
    s.popStep i q = (s.setLane i { s.lane i with io := .seq { q with steps := rest } }).runSeq i := by
  rw [State.popStep, steps, List.tail_cons, State.modLane_eq]

theorem State.writeAccepted_eq {s : State} {i : LaneId} {q : WriteSeq} {k : WriteKind} {a : Addr} {b : List Byte}
    {rest : List SeqStep} (io : (s.lane i).io = .seq q) (begun : q.begun = true) (steps : q.steps = .write k a b :: rest) :
    s.writeAccepted i = ((s.put (.accepted a b)).setLane i
      { (s.lane i).wrote q k with io := .seq { q with steps := rest } }).runSeq i := by
  rw [State.writeAccepted, (Lane.headWrite_iff _ _ _ _ _).mpr ⟨io, begun, rest, steps⟩]
  dsimp only
  rw [State.popStep_eq _ i q steps, State.modLane_eq, State.lane_setLane_same, State.setLane_setLane, State.lane_put]

/-- Settles O53: the accepted write's effect, then the sequence by the step at its head. -/
theorem retirementWritten : Obligations.RetirementWritten := by
  intro i s q k a b rest io begun steps l put left
  have wrote : (s.lane i).wrote q k = l := Lane.wrote_eq _ q k
  have accepted : s.writeAccepted i = (put.setLane i left).runSeq i := by
    rw [State.writeAccepted_eq io begun steps, wrote]
    rfl
  have ioLeft : ((put.setLane i left).lane i).io = .seq { q with steps := rest } := by rw [State.lane_setLane_same]
  refine ⟨fun k' a' b' rest' writes => next_onLink (accepted.trans ?_), fun done kind => next_onLink (accepted.trans ?_),
    fun n rest' notice => next_onLink (accepted.trans ?_)⟩
  · refine State.runSeq_of_waiting fun q' io' => .inr ⟨k', a', b', rest', ?_⟩
    rw [ioLeft] at io'
    cases io'
    exact writes
  · rw [State.runSeq_of_nil ioLeft begun done, State.finishSeq_eq (q := { q with steps := rest }) false kind,
      State.lane_setLane_same, Lane.eventEnded_io l q rest false _ kind, State.setLane_setLane]
    rfl
  · rw [State.runSeq_of_notice ioLeft begun notice, State.handNotice_eq, State.lane_setLane_same, State.setLane_setLane]
    rfl

/-! ## Refused writes (R154 to R156) -/

theorem restStep_congr {s t : State} {i : LaneId} (rest : (t.lane i).restLast = (s.lane i).restLast)
    (base : t.dirBase = s.dirBase) (r : RestState) : restStep t i r = restStep s i r := by
  rw [restStep, restStep, rest, base]

theorem State.haltUnwritten_eq {s : State} {i : LaneId} {c : Record} (r : RecResult) (accepted : Bool)
    (cur : (s.lane i).cur = some c) :
    s.haltUnwritten i r accepted =
      if (s.lane i).state = .abandoning then
        s.setLane i { s.lane i with io := .idle, cur := some (c.unwritten r accepted) }
      else (s.setLane i { s.lane i with haltReason := .hostAccess, cur := some (c.unwritten r accepted) }).startSeq i
        .retiring .rehalt
        (restStep s i .halted
          ++ [.notice (recordNotice (c.unwritten r accepted)
            { outcome := .failed, reason := .hostAccess, notes := r.notes, progress := r.progress } .halted)]) true := by
  have rest : restStep (s.setLane i { s.lane i with cur := some (c.unwritten r accepted) }) i .halted =
      restStep s i .halted := by
    refine restStep_congr (s := s) (t := s.setLane i _) ?_ rfl _
    rw [State.lane_setLane_same]
  simp only [State.haltUnwritten, State.modLane_eq, State.lane_setLane_same, cur, Option.map_some,
    State.setLane_setLane, haltSteps, rest]

theorem recordNotice_unwritten (c : Record) (r r' : RecResult) (accepted : Bool) (rest : RestState) :
    recordNotice (c.unwritten r accepted) r' rest = recordNotice c r' rest := by
  rw [Record.unwritten_eq]
  split <;> rfl

/-- Settles O54: each refused write by the sequence and the write it was. -/
theorem retirementWritesRefused : Obligations.RetirementWritesRefused := by
  intro i s q k a b rest io begun steps put halted goesOn
  have head : (s.lane i).headWrite = some (q, k, a, b) := (Lane.headWrite_iff _ _ _ _ _).mpr ⟨io, begun, rest, steps⟩
  have halts (c : Record) (r : RecResult) (accepted : Bool) (cur : (s.lane i).cur = some c) :
      (s.put (.torn a b)).haltUnwritten i r accepted = halted c r accepted := by
    rw [State.haltUnwritten_eq (s := s.put (.torn a b)) r accepted cur, recordNotice_unwritten, Record.unwritten_eq]
    rfl
  have continues : ((s.put (.torn a b)).modLane i (fun l => { l with haltReason := .hostAccess })).popStep i q =
      goesOn := by
    rw [State.popStep_eq _ i q steps, State.modLane_eq, State.lane_setLane_same, State.setLane_setLane, State.lane_put]
    rfl
  refine ⟨?_, ?_, ?_, ?_, ?_⟩
  · rintro r c kind (rfl | rfl) cur <;>
    · refine next_onLink ?_
      rw [← halts c r false cur, State.statusRefused, head]
      simp only [kind]
  · rintro r t c kind rfl cur
    refine next_onLink ?_
    rw [← halts c r true cur, State.resumePointRefused, head]
    simp only [kind]
  · rintro t c kind rfl cur
    refine next_onLink ?_
    rw [State.linkRefused, head]
    simp only [if_pos kind, State.modLane_eq, Lane.withEx, State.lane_put, cur]
    rfl
  · rintro r kind rfl
    refine next_onLink ?_
    rw [State.restRefused, head]
    simp only [if_neg kind]
    exact continues
  · rintro t kind rfl
    refine next_onLink ?_
    rw [State.stopRefused, head]
    simp only [if_pos kind]
    exact continues

/-! ## The end of a slot write (R144, R146, R150, R151) -/

/-- R144, R146, R148: what the end of a slot write leaves of the Notice Unit. -/
theorem State.noticePosted_eq (s : State) (i : LaneId) (w : SlotWrite) :
    s.noticePosted i w [] = if w.setsBit then s.raisePend i else s := by
  unfold State.noticePosted State.raisePend
  dsimp only
  rw [List.append_nil]
  by_cases sets : w.setsBit = true
  · rw [if_pos sets, if_pos sets, sets, Bool.true_and]
    by_cases rises : (!s.pend.getLsbD i.val && s.mask.getLsbD i.val) = true
    · rw [if_pos rises, if_pos rises, rises, Bool.true_and, State.askMsi]
      dsimp only
      by_cases on : (s.bus.msiEnable && s.bus.busMaster) = true
      · rw [if_pos on, if_pos on]
        rfl
      · rw [if_neg on, if_neg on, List.append_nil]
    · rw [Bool.eq_false_of_not_eq_true rises]
      simp
  · rw [if_neg sets, if_neg sets, Bool.eq_false_of_not_eq_true sets]
    simp

theorem State.slotPosted_eq (s : State) (i : LaneId) (w : SlotWrite) :
    s.slotPosted i w = ((s.noticePosted i w []).setLane i { s.lane i with slot := none }).slotEnded i w.own := by
  have posted : (if w.setsBit then (s.modLane i (fun l => { l with slot := none })).raisePend i
      else s.modLane i (fun l => { l with slot := none })) =
        (s.noticePosted i w []).setLane i { s.lane i with slot := none } := by
    rw [State.modLane_eq, ← State.noticePosted_eq]
    rfl
  rw [State.slotPosted, posted]

theorem State.noticePosted_put (s : State) (i : LaneId) (v : SlotWrite) (w : LinkWrite) :
    (s.put w).noticePosted i v [] = s.noticePosted i v [w] := by
  unfold State.noticePosted State.put
  simp only [List.append_nil]

theorem State.noticePosted_setLane (s : State) (i : LaneId) (v : SlotWrite) (x : List LinkWrite) (l : Lane) :
    (s.setLane i l).noticePosted i v x = (s.noticePosted i v x).setLane i l := rfl

theorem State.slotAccepted_eq {s : State} {i : LaneId} {w : SlotWrite} (slot : (s.lane i).slot = some w) :
    s.slotAccepted i =
      ((s.noticePosted i w [.accepted (noticeSlotAddr s.dirBase i) w.notice.bytes]).setLane i
        { s.lane i with slot := none }).slotEnded i w.own := by
  rw [State.slotAccepted, slot]
  dsimp only
  rw [State.slotPosted_eq, State.lane_put, State.noticePosted_put]

theorem State.slotRefused_eq {s : State} {i : LaneId} {w : SlotWrite} (slot : (s.lane i).slot = some w) :
    s.slotRefused i = ((s.noticePosted i w []).setLane i
      { (s.lane i).slotFailed w.own with slot := none }).slotEnded i w.own := by
  rw [State.slotRefused, slot]
  dsimp only
  rw [State.slotPosted_eq, State.modLane_eq, State.lane_setLane_same, State.noticePosted_setLane,
    State.setLane_setLane]

/-- A refusal marks the sequence of a teardown alone. -/
theorem Lane.slotFailed_eq {l : Lane} {own : Bool} (rests : own = true → ∀ q, l.io = .seq q → q.kind ≠ .teardown) :
    l.slotFailed own = { l with haltReason := .hostAccess } := by
  unfold Lane.slotFailed
  cases io : l.io with
  | idle => rfl
  | read r b => rfl
  | seq q =>
    have mark : (own && decide (q.kind = .teardown)) = false := by
      cases own with
      | false => rfl
      | true => exact decide_eq_false (rests rfl q io)
    simp only [mark, Bool.or_false]

theorem State.slotEnded_of_own {s : State} {i : LaneId} {l : Lane} {q : WriteSeq} (io : l.io = .seq q)
    (kind : q.kind ≠ .teardown) :
    (s.setLane i l).slotEnded i true = s.setLane i (l.eventEnded q false s.hold) := by
  rw [State.slotEnded, if_pos rfl, State.lane_setLane_same, io]
  exact (State.finishSeq_eq false kind).trans (by rw [State.lane_setLane_same, State.setLane_setLane, State.hold_setLane])

theorem State.slotEnded_of_teardown {s : State} {i : LaneId} {l : Lane} {q : WriteSeq} (io : l.io = .seq q)
    (kind : q.kind = .teardown) : (s.setLane i l).slotEnded i true = s.setLane i (l.tornDown q.failed) := by
  rw [State.slotEnded, if_pos rfl, State.lane_setLane_same, io]
  exact (State.finishSeq_teardown false kind).trans (by rw [State.lane_setLane_same, State.setLane_setLane])

theorem State.slotEnded_of_other {s : State} {i : LaneId} {l : Lane} (state : l.state ≠ .noticeWait) :
    (s.setLane i l).slotEnded i false = (s.setLane i l).runSeq i := by
  rw [State.slotEnded, if_neg Bool.false_ne_true, State.lane_setLane_same, if_neg state]

theorem State.resumeNow_eq (s : State) (i : LaneId) : s.resumeNow i = s.setLane i
    { s.lane i with
      state := .fetching, io := .read (if (s.lane i).cur = none then .entry else .header false) (!s.hold) } := by
  rw [State.resumeNow, State.startRead_eq]
  cases (s.lane i).cur <;> rfl

/-- A lane leaves NOTICE_WAIT for the fetch. -/
theorem State.slotEnded_of_fetch {s : State} {i : LaneId} {l : Lane} (state : l.state = .noticeWait)
    (act : l.waitAct = .fetch) : (s.setLane i l).slotEnded i false =
      s.setLane i { l with state := .fetching, io := .read (.header false) (!s.hold) } := by
  have leaves : (s.setLane i l).slotEnded i false = (s.setLane i l).startRead i .fetching (.header false) := by
    rw [State.slotEnded, if_neg Bool.false_ne_true, State.leaveWait, State.lane_setLane_same, if_pos state,
      if_pos state, act]
  rw [leaves, State.startRead_eq, State.lane_setLane_same, State.setLane_setLane, State.hold_setLane]

/-- A lane leaves NOTICE_WAIT for the re-read of its RESUME. -/
theorem State.slotEnded_of_resume {s : State} {i : LaneId} {l : Lane} (state : l.state = .noticeWait)
    (act : l.waitAct = .resume) : (s.setLane i l).slotEnded i false =
      s.setLane i { l with
        state := .fetching, io := .read (if l.cur = none then .entry else .header false) (!s.hold) } := by
  have leaves : (s.setLane i l).slotEnded i false = (s.setLane i l).resumeNow i := by
    rw [State.slotEnded, if_neg Bool.false_ne_true, State.leaveWait, State.lane_setLane_same, if_pos state,
      if_pos state, act]
  rw [leaves, State.resumeNow_eq, State.lane_setLane_same, State.setLane_setLane, State.hold_setLane]

/-- A lane leaves NOTICE_WAIT for its SKIP. -/
theorem State.slotEnded_of_skip {s : State} {i : LaneId} {l : Lane} (state : l.state = .noticeWait)
    (act : l.waitAct = .skip) : (s.setLane i l).slotEnded i false = (s.setLane i l).skipNow i := by
  rw [State.slotEnded, if_neg Bool.false_ne_true, State.leaveWait, State.lane_setLane_same, if_pos state,
    if_pos state, act]

/-- Settles O56: the end of the slot write, then what follows it by whose write it was and what the lane does. -/
theorem noticeSlotWriteEnds : Obligations.NoticeSlotWriteEnds := by
  intro i s w slot free good bad l0 l1
  have accepted : s.slotAccepted i = (good.setLane i l0).slotEnded i w.own := State.slotAccepted_eq slot
  have refused (rests : w.own = true → ∀ q, (s.lane i).io = .seq q → q.kind ≠ .teardown) :
      s.slotRefused i = (bad.setLane i l1).slotEnded i w.own := by
    rw [State.slotRefused_eq slot, Lane.slotFailed_eq rests]
  have both {t u : State} (rests : w.own = true → ∀ q, (s.lane i).io = .seq q → q.kind ≠ .teardown)
      (onGood : (good.setLane i l0).slotEnded i w.own = t) (onBad : (bad.setLane i l1).slotEnded i w.own = u) :
      exec (.noticeSlotWriteAccepted i) s = .next (s.onLink i t)
        ∧ exec (.noticeSlotWriteRefused i) s = .next (s.onLink i u) :=
    ⟨next_onLink (accepted.trans onGood), next_onLink ((refused rests).trans onBad)⟩
  have foreign (own : w.own = false) : w.own = true → ∀ q, (s.lane i).io = .seq q → q.kind ≠ .teardown := by
    rw [own]
    nofun
  refine ⟨fun q own io kind => ?_, fun own state act => ?_, fun own state act => ?_, fun own state act => ?_,
    fun own state => ?_⟩
  · have rests : w.own = true → ∀ q', (s.lane i).io = .seq q' → q'.kind ≠ .teardown := fun _ q' io' => by
      cases io.symm.trans io'
      exact kind
    rw [own] at both
    exact both (fun _ => rests own) (State.slotEnded_of_own io kind) (State.slotEnded_of_own io kind)
  all_goals rw [own] at both
  · exact both nofun (State.slotEnded_of_fetch state act) (State.slotEnded_of_fetch state act)
  · exact both nofun (State.slotEnded_of_resume state act) (State.slotEnded_of_resume state act)
  · exact both nofun (State.slotEnded_of_skip state act) (State.slotEnded_of_skip state act)
  · exact both nofun (State.slotEnded_of_other state) (State.slotEnded_of_other state)

/-! ## The teardown (R126, R127) -/

theorem Lane.giveBack_eq (l : Lane) : l.giveBack =
    { l with
      store := [], lastStart := 0, table := [], intake := [], overrun := false
      pf := { queue := [], paused := false, cursor := 0, stopped := false
              outstanding := if l.pf.outstanding = .none then .none else .stale } } := by
  rw [Lane.giveBack, Prefetch.discard, BlockRead.makeStale_eq]

theorem State.laneInFlight_iff (s : State) (i : LaneId) : s.laneInFlight i = false ↔
    (s.lane i).io = .idle ∧ (s.lane i).gate.poll ≠ .outstanding ∧ s.timing.owner ≠ some i
      ∧ (s.mixEng 0).owner ≠ some i ∧ (s.mixEng 1).owner ≠ some i := by
  simp only [State.laneInFlight, State.ownsEngine, Bool.or_eq_false_iff, decide_eq_false_iff_not, not_not, and_assoc]

theorem Lane.tornDown_eq (l : Lane) (failed : Bool) : l.tornDown failed =
    { Lane.reset with
      haltReason := if failed then .hostAccess else .none
      restLast := l.restLast
      gate := { deadline := 0, poll := .none, stale := l.gate.stale || decide (l.gate.poll = .outstanding) }
      pf := { Prefetch.reset with outstanding := if l.pf.outstanding = .none then .none else .stale }
      deferred := l.deferred, slot := l.slot } := by
  rw [Lane.tornDown, Prefetch.discard, BlockRead.makeStale_eq]
  rfl

/-- R126, R127: a teardown begins; its steps are those that a lane with the same record, next address and rest state
makes. -/
theorem State.teardown_of_ready {s : State} {i : LaneId} (state : (s.lane i).state = .abandoning)
    (free : s.laneInFlight i = false) (run : s.hold = false) :
    s.teardown i = ((({ s with
        cueFree := s.cueFree + (s.lane i).store.length, clipFree := s.clipFree + (s.lane i).table.length
        freeCtr := s.freeCtr + 1 } : State).setLane i
      { (s.lane i).giveBack with
        io := .seq { kind := .teardown, steps := teardownSteps s i, begun := true, failed := false } })).runSeq i := by
  rw [State.teardown]
  dsimp only
  rw [if_pos ⟨state, free, run⟩, State.startSeq_eq_runSeq, State.modLane_eq]
  have given (l : Lane) : ({ ((s.setLane i (s.lane i).giveBack).freeCues (s.lane i).store.length).freeClips
      (s.lane i).table.length with freeCtr := s.freeCtr + 1 } : State).setLane i l = ({ s with
        cueFree := s.cueFree + (s.lane i).store.length, clipFree := s.clipFree + (s.lane i).table.length
        freeCtr := s.freeCtr + 1 } : State).setLane i l := by
    simp [State.setLane, State.freeCues, State.freeClips]
  have kept (q : WriteSeq) : ({ (s.lane i).giveBack with state := .abandoning, io := .seq q } : Lane) =
      { (s.lane i).giveBack with io := .seq q } := by
    rw [← state]
    rfl
  have lane : ({ ((s.setLane i (s.lane i).giveBack).freeCues (s.lane i).store.length).freeClips
      (s.lane i).table.length with freeCtr := s.freeCtr + 1 } : State).lane i = (s.lane i).giveBack :=
    State.lane_setLane_same _ _ _
  refine congrArg (State.runSeq · i) ((given _).trans ?_)
  rw [← kept]
  exact congrArg (fun l : Lane => State.setLane _ i { l with state := .abandoning, io := _ }) lane

/-- R127: the steps of a teardown with a current record. -/
theorem teardownSteps_of_some {s : State} {i : LaneId} {c : Record} (cur : (s.lane i).cur = some c) :
    teardownSteps s i =
      (if c.owed.any Owed.accepted then [] else statusSteps c (abandonedResult c))
        ++ [resumeStep s i (c.addr + match c.hdr with
            | some h => BitVec.ofNat 64 h.len
            | none => (Config.unreadLength s.freeCtr).setWidth 64)]
        ++ restStep s i .idle ++ [.notice (recordNotice c (abandonedResult c) .idle)] := by
  simp only [teardownSteps, teardownStatus, teardownTarget, teardownNotice, cur]
  obtain ⟨addr, hdr, body, ex, owed⟩ := c
  cases hdr <;> cases owed <;> rfl

/-- R127: the steps of a teardown without a current record. -/
theorem teardownSteps_of_none {s : State} {i : LaneId} (cur : (s.lane i).cur = none) :
    teardownSteps s i =
      (match (s.lane i).next with | some a => [resumeStep s i a] | none => []) ++ restStep s i .idle
        ++ [.notice { addr := (s.lane i).next.getD 0, tag := 0, outcome := .abandoned, reason := .none, notes := 0
                      progress := 0, rest := .idle }] := by
  simp only [teardownSteps, teardownStatus, teardownTarget, teardownNotice, cur] <;> rfl

/-- R127: a refused slot write of a teardown marks its sequence. -/
theorem Lane.slotFailed_teardown {l : Lane} {q : WriteSeq} (io : l.io = .seq q) (kind : q.kind = .teardown) :
    l.slotFailed true = { l with haltReason := .hostAccess, io := .seq { q with failed := true } } := by
  simp only [Lane.slotFailed, io, kind, decide_true, Bool.and_self, Bool.or_true]

/-- Settles O55: when a teardown begins, its sequence, its refused writes, and the lane at its end. -/
theorem teardownRuns : Obligations.TeardownRuns := by
  intro i s l ready given bare tearing
  have isReady : ready ↔ l.state = .abandoning ∧ s.laneInFlight i = false ∧ s.hold = false := by
    rw [State.laneInFlight_iff]
    tauto
  have begins (h : ready) : s.teardown i = tearing (teardownSteps s i) := by
    obtain ⟨state, free, run⟩ := isReady.mp h
    rw [State.teardown_of_ready state free run, Lane.giveBack_eq]
  refine ⟨fun busy => next_onLink (if_neg (isReady.not.mp busy)), fun c h cur => ?_, fun h cur => ?_, ?_, ?_⟩
  · intro r len
    exact next_onLink ((begins h).trans (congrArg tearing (teardownSteps_of_some cur)))
  · exact next_onLink ((begins h).trans (congrArg tearing (teardownSteps_of_none cur)))
  · intro q k a b rest io begun kind steps more
    refine next_onLink ?_
    rw [State.teardownWriteRefused, (Lane.headWrite_iff _ _ _ _ _).mpr ⟨io, begun, rest, steps⟩]
    dsimp only
    rw [if_pos kind, State.teardownRefused, State.popStep_eq _ i { q with failed := true } steps, State.lane_put]
    rfl
  · intro q w io kind slot own idle a
    refine ⟨next_onLink ?_, next_onLink ?_⟩
    · rw [State.slotAccepted_eq slot, own,
        State.slotEnded_of_teardown (l := { s.lane i with slot := none }) io kind, Lane.tornDown_eq]
      simp only [idle, Bool.or_false]
      rfl
    · rw [State.slotRefused_eq slot, own, Lane.slotFailed_teardown io kind,
        State.slotEnded_of_teardown (l := { s.lane i with
          haltReason := .hostAccess, io := .seq { q with failed := true }, slot := none }) rfl kind, Lane.tornDown_eq]
      simp only [idle, Bool.or_true]
      rfl

end Sys2Proof.Machine
end

section
/-! The steps of an INSPECT and its image (R129, R130, R179): O57. -/

namespace Sys2Proof.Machine

open Sys2Proof

/-! ## Fields of laid out bytes (R173) -/

theorem leField_append_left {xs : List Byte} {off n : Nat} (h : off + n ≤ xs.length) (ys : List Byte) :
    leField (xs ++ ys) off n = leField xs off n := by
  rw [leField, List.drop_append_of_le_length (by omega), List.take_append_of_le_length (by simp; omega), leField]

theorem leField_append_right {xs : List Byte} {off : Nat} (h : xs.length ≤ off) (ys : List Byte) (n : Nat) :
    leField (xs ++ ys) off n = leField ys (off - xs.length) n := by
  rw [leField, List.drop_append, List.drop_eq_nil_of_le h, List.nil_append, leField]

/-- A value laid out first is read back at offset 0, as much of it as its field holds. -/
theorem leField_leBytes_mod (n v : Nat) (rest : List Byte) : leField (leBytes n v ++ rest) 0 n = v % 256 ^ n := by
  rw [leField, List.drop_zero, List.take_left' (length_leBytes n v), leNat_leBytes]

theorem leField_leBytes_self (n v : Nat) : leField (leBytes n v) 0 n = v % 256 ^ n := by
  rw [← List.append_nil (leBytes n v), leField_leBytes_mod]

/-- Word `j` of an array of 32-bit words. -/
theorem leField_words {xs : List Nat} {j v : Nat} (h : xs[j]? = some v) :
    leField (xs.map (leBytes 4)).flatten (4 * j) 4 = v % 256 ^ 4 := by
  have lt : j < xs.length := (List.getElem?_eq_some_iff.mp h).1
  have sizes : ((xs.take j).map fun y => (leBytes 4 y).length).sum = 4 * j := by
    simp [Nat.min_eq_left lt.le, Nat.mul_comm]
  have word := take_drop_flatten_map (leBytes 4) h
  rw [sizes, length_leBytes] at word
  rw [leField, word, leNat_leBytes]

/-! ## The longest leading run of entries (R130) -/

/-- R130, R179: the entries kept are a leading run, which fits, and which the next entry would not. -/
theorem entriesWithin_spec (room : Nat) (es : List (List Byte)) :
    (entriesWithin room es).flatten.length ≤ room
      ∧ ∃ n, entriesWithin room es = es.take n
        ∧ ∀ e ∈ (es.drop n).head?, room < (entriesWithin room es).flatten.length + e.length := by
  induction es generalizing room with
  | nil => exact ⟨Nat.zero_le _, 0, rfl, nofun⟩
  | cons e es ih =>
    unfold entriesWithin
    by_cases fits : e.length ≤ room
    · obtain ⟨within, n, run, longest⟩ := ih (room - e.length)
      rw [if_pos fits]
      refine ⟨?_, n + 1, by rw [List.take_succ_cons, run], fun x hx => ?_⟩
      · rw [List.flatten_cons, List.length_append]
        omega
      · have := longest x hx
        rw [List.flatten_cons, List.length_append]
        omega
    · rw [if_neg fits]
      refine ⟨Nat.zero_le _, 0, rfl, fun x hx => ?_⟩
      cases hx
      simpa using fits

/-! ## The image, to the byte (R179) -/

theorem length_counterWords (v : Vector Nat 14) : (v.toList.map (leBytes 4)).flatten.length = 56 := by
  simp [Function.comp_def]

theorem Snapshot.length_fixedPart (x : Snapshot) (written omitted : Nat) : (x.fixedPart written omitted).length = 96 := by
  simp [Snapshot.fixedPart, Function.comp_def]

theorem Snapshot.fixedPart_fields (x : Snapshot) {written omitted : Nat} (w : written < 2 ^ 32) (o : omitted < 2 ^ 32) :
    let f := x.fixedPart written omitted
    f.length = 96 ∧ leField f 0 1 = x.state.code ∧ leField f 1 1 = x.kind.code ∧ leField f 2 1 = x.halt.code
      ∧ leField f 3 1 = x.lane.val ∧ leField f 4 4 = x.progress % 2 ^ 32 ∧ leField f 8 8 = x.recAddr.toNat
      ∧ leField f 16 8 = x.pos % 2 ^ 64 ∧ leField f 24 4 = written ∧ leField f 28 4 = omitted
      ∧ (∀ k : Fin 14, leField f (32 + 4 * k.val) 4 = x.counters.get k % 2 ^ 32)
      ∧ leField f 88 4 = x.segTotal % 2 ^ 32 ∧ leField f 92 4 = x.frmTotal % 2 ^ 32 := by
  intro f
  have state : x.state.code < 256 := by cases x.state <;> decide
  have kind : x.kind.code < 256 := by cases x.kind <;> decide
  have halt : x.halt.code < 256 := by cases x.halt <;> decide
  have lane : x.lane.val < 256 := x.lane.isLt.trans (by decide)
  have addr : x.recAddr.toNat < 256 ^ 8 := x.recAddr.isLt
  have words := length_counterWords x.counters
  have counter (k : Fin 14) : leField f (32 + 4 * k.val) 4 = x.counters.get k % 2 ^ 32 := by
    have lt := k.isLt
    have word : x.counters.toList[k.val]? = some (x.counters.get k) := by simp [Vector.get_eq_getElem]
    simp only [f, Snapshot.fixedPart, List.append_assoc]
    rw [← List.append_assoc, ← List.append_assoc, ← List.append_assoc, ← List.append_assoc, ← List.append_assoc,
      ← List.append_assoc, ← List.append_assoc, ← List.append_assoc, leField_append_right (by simp),
      leField_append_left (by simp only [words, List.length_append, length_leBytes]; omega)]
    simpa using leField_words word
  refine ⟨x.length_fixedPart written omitted, ?_, ?_, ?_, ?_, ?_, ?_, ?_, ?_, ?_, counter, ?_, ?_⟩
  all_goals simp (disch := omega) [f, Snapshot.fixedPart, leField_leBytes_mod, leField_leBytes_append,
    leField_append_right, words, leField_leBytes_self, Nat.mod_eq_of_lt]

theorem CueEntry.imageBytes_fields {e : CueEntry} (text : e.text.length ≤ 240) (chars : e.chars ≤ 240)
    (start : e.start ≤ maxTime) (stop : e.stop ≤ maxTime) :
    let b := e.imageBytes
    let size := 24 + (e.text.length + 7) / 8 * 8
    b.length = size ∧ leField b 0 8 = e.start ∧ leField b 8 8 = e.stop ∧ leField b 16 1 = e.slot.toNat
      ∧ leField b 17 1 = e.style.toNat ∧ leField b 18 1 = (if e.forced then 1 else 0) + (if e.continued then 2 else 0)
      ∧ leField b 19 1 = e.chars ∧ leField b 20 2 = e.text.length ∧ leField b 22 2 = 0
      ∧ b.drop 24 = e.text ++ List.replicate (size - 24 - e.text.length) 0 := by
  intro b size
  have range : maxTime < 256 ^ 8 := by decide
  have slot : e.slot.toNat < 256 := e.slot.isLt.trans (by decide)
  have style : e.style.toNat < 256 := e.style.isLt.trans (by decide)
  have flags : (if e.forced then 1 else 0) + (if e.continued then 2 else 0) < 256 := by split_ifs <;> omega
  have len : e.text.length < 256 ^ 2 := by omega
  have tail : b.drop 24 = padded e.text := List.drop_left' (by simp)
  have pad : padLen e.text.length = size - 24 - e.text.length := by
    simp only [size, padLen]
    omega
  refine ⟨?_, ?_, ?_, ?_, ?_, ?_, ?_, ?_, ?_, tail.trans (by rw [padded, pad])⟩
  · simp only [b, size, CueEntry.imageBytes, List.length_append, length_leBytes, length_padded, round8_eq]
  all_goals simp (disch := omega) [b, CueEntry.imageBytes, leField_leBytes, leField_leBytes_append]

theorem ClipEntry.imageBytes_fields (e : ClipEntry) :
    let b := e.imageBytes
    b.length = 32 ∧ leField b 0 8 = e.pcm.toNat ∧ leField b 8 8 = e.start % 2 ^ 64 ∧ leField b 16 4 = e.len % 2 ^ 32
      ∧ leField b 20 2 = e.gain % 2 ^ 16 ∧ leField b 22 2 = e.duck % 2 ^ 16 ∧ leField b 24 2 = e.attack % 2 ^ 16
      ∧ leField b 26 2 = e.release % 2 ^ 16 ∧ leField b 28 1 = e.mask.toNat ∧ leField b 29 3 = 0 := by
  have pcm : e.pcm.toNat < 256 ^ 8 := e.pcm.isLt
  have mask : e.mask.toNat < 256 ^ 1 := e.mask.isLt
  intro b
  simp (disch := omega) [b, ClipEntry.imageBytes, leField_leBytes_mod, leField_leBytes_append, leField_leBytes_self,
    Nat.mod_eq_of_lt]

/-! ## The steps (R130) -/

/-- Settles O57: the steps, then the image to the byte. -/
theorem inspectRuns : Obligations.InspectRuns := by
  refine ⟨?_, fun x written omitted => x.fixedPart_fields, rfl, rfl, fun e => CueEntry.imageBytes_fields,
    ClipEntry.imageBytes_fields⟩
  intro s j bytes a b job done addr cap kept
  obtain ⟨within, run⟩ := entriesWithin_spec (cap - 96) j.snap.entries
  refine ⟨fun reading => ⟨?_, ?_⟩, rfl, fun room => ⟨?_, rfl, ?_⟩, fun writing => ⟨?_, ?_⟩⟩
  · have read : s.inspectRead bytes =
        if addr = 0 ∨ addr.toNat % 8 ≠ 0 ∨ cap < 96 then done .inspectFailed
        else { s with port := { s.port with
          job := some { j with phase := .writing addr (j.snap.image cap) } } } := by
      simp only [State.inspectRead, job, reading, aligned_eq_false_iff]
      rfl
    exact congrArg (fun t => Host.Outcome.next (s.onLinkInspect t)) read
  · have failed : s.inspectReadFailed = done .inspectFailed := by
      simp only [State.inspectReadFailed, job, reading]
      rfl
    exact congrArg Host.Outcome.next failed
  · rw [Snapshot.image, List.length_append, Snapshot.length_fixedPart]
    omega
  · obtain ⟨n, taken, longest⟩ := run
    refine ⟨n, taken, fun e he => ?_⟩
    have : cap - 96 < kept.flatten.length + e.length := longest e he
    omega
  · have written : s.inspectWritten = (s.put (.accepted a b)).endInspect .inspectDone := by
      simp only [State.inspectWritten, job, writing]
    exact congrArg Host.Outcome.next written
  · have refused : s.inspectRefused = (s.put (.torn a b)).endInspect .inspectFailed := by
      simp only [State.inspectRefused, job, writing]
    exact congrArg Host.Outcome.next refused

end Sys2Proof.Machine
end

section
/-! The bytes and addresses of the part's writes, the register reads, the fields it reads, and where its reads go (R163 to
R166, R173 to R178): O27. -/

namespace Sys2Proof.Machine

open Sys2Proof

/-! ## What is laid out -/

theorem restStateBytes_eq (r : RestState) : restStateBytes r = [BitVec.ofNat 8 r.code, 0, 0, 0, 0, 0, 0, 0] := by
  cases r <;> rfl

theorem Record.resultsAddr_eq (c : Record) : c.bodyAddr + 24 = c.addr + (if c.hasGate then 56 else 40) := by
  rw [Record.bodyAddr]
  cases c.hasGate <;> simp [BitVec.add_assoc]

theorem statusBytes_fields (r : RecResult) : (statusBytes r).length = 8
    ∧ (statusBytes r).take 2 = [BitVec.ofNat 8 r.outcome.code, BitVec.ofNat 8 r.reason.code]
    ∧ leField (statusBytes r) 2 2 = r.notes.toNat ∧ leField (statusBytes r) 4 4 = r.progress % 2 ^ 32 := by
  have notes : r.notes.toNat < 256 ^ 2 := r.notes.isLt
  refine ⟨by simp [statusBytes], rfl, ?_, ?_⟩
  all_goals simp (disch := omega) [statusBytes, leField_leBytes_mod, leField_leBytes_append, leField_leBytes_self,
    Nat.mod_eq_of_lt]

theorem resultBytes_fields (x : ExecState) : (resultBytes x).length = 20
    ∧ leField (resultBytes x) 0 4 = x.areaOff % 2 ^ 32 ∧ leField (resultBytes x) 4 4 = x.diffCount % 2 ^ 32
    ∧ (x.firstDiff = none → leField (resultBytes x) 8 8 = 2 ^ 64 - 1 ∧ leField (resultBytes x) 16 4 = 2 ^ 32 - 1)
    ∧ ∀ k off, x.firstDiff = some (k, off) →
      leField (resultBytes x) 8 8 = k % 2 ^ 64 ∧ leField (resultBytes x) 16 4 = off % 2 ^ 32 := by
  refine ⟨?_, ?_, ?_, fun none => ?_, fun k off some => ?_⟩
  · rw [resultBytes]
    cases x.firstDiff <;> simp
  all_goals simp (disch := omega) [resultBytes, leField_leBytes_mod, leField_leBytes_append, leField_leBytes_self, *]

theorem Notice.bytes_fields (n : Notice) : n.bytes.length = 24 ∧ leField n.bytes 0 8 = n.addr.toNat
    ∧ leField n.bytes 8 3 = n.tag.toNat ∧ leField n.bytes 11 1 = n.outcome.code ∧ leField n.bytes 12 1 = n.reason.code
    ∧ leField n.bytes 13 1 = n.rest.code ∧ leField n.bytes 14 2 = n.notes.toNat
    ∧ leField n.bytes 16 4 = n.progress % 2 ^ 32 ∧ leField n.bytes 20 4 = 0 := by
  have addr : n.addr.toNat < 256 ^ 8 := n.addr.isLt
  have tag : n.tag.toNat < 256 ^ 3 := n.tag.isLt
  have notes : n.notes.toNat < 256 ^ 2 := n.notes.isLt
  have outcome : n.outcome.code < 256 := by cases n.outcome <;> decide
  have reason : n.reason.code < 256 := by cases n.reason <;> decide
  have rest : n.rest.code < 256 := by cases n.rest <;> decide
  refine ⟨by simp [Notice.bytes], ?_, ?_, ?_, ?_, ?_, ?_, ?_, ?_⟩
  all_goals simp (disch := omega) [Notice.bytes, leField_leBytes_mod, leField_leBytes_append, leField_leBytes_self,
    Nat.mod_eq_of_lt]

/-! ## The registers (R163 to R166) -/

theorem toNat_append_eq {n m : Nat} (a : BitVec n) (b : BitVec m) :
    (a ++ b).toNat = a.toNat * 2 ^ m + b.toNat := by
  rw [BitVec.toNat_append, ← Nat.shiftLeft_add_eq_or_of_lt b.isLt, Nat.shiftLeft_eq]

theorem setWidth_eq_append (x : BitVec 16) : x.setWidth 32 = 0#16 ++ x := by
  refine BitVec.eq_of_toNat_eq ?_
  have lt := x.isLt
  rw [toNat_append_eq, BitVec.toNat_setWidth, BitVec.toNat_ofNat]
  omega

theorem CmdPort.read_eq (p : CmdPort) : p.read =
    BitVec.ofBool p.job.isSome ++ 0#7 ++ BitVec.ofNat 8 p.lastResult.code ++ 0#4 ++ p.lastAction ++ 0#4
      ++ BitVec.ofNat 4 p.lastLane.val := by
  have code : p.lastResult.code < 8 := by cases p.lastResult <;> decide
  have lane := p.lastLane.isLt
  have action := p.lastAction.isLt
  refine BitVec.eq_of_toNat_eq ?_
  simp only [CmdPort.read, CmdPort.busy, toNat_append_eq, BitVec.toNat_ofNat]
  rw [BitVec.toNat_ofBool]
  obtain busy | busy := Bool.eq_false_or_eq_true p.job.isSome
  · simp only [busy, if_true, Bool.toNat_true]
    omega
  · simp only [busy, Bool.false_eq_true, if_false, Bool.toNat_false]
    omega

/-- A sum of distinct powers of two has the bits that it names. -/
theorem testBit_sum_two_pow (b : Nat → Bool) (n : Nat) :
    ((List.range n).map fun j => if b j then 2 ^ j else 0).sum < 2 ^ n
      ∧ ∀ j < n, ((List.range n).map fun j => if b j then 2 ^ j else 0).sum.testBit j = b j := by
  induction n with
  | zero => exact ⟨Nat.one_pos, nofun⟩
  | succ n ih =>
    obtain ⟨lt, bits⟩ := ih
    rw [List.range_succ, List.map_append, List.sum_append, List.map_singleton, List.sum_singleton, Nat.pow_succ]
    generalize ((List.range n).map fun j => if b j then 2 ^ j else 0).sum = x at lt bits
    cases set : b n with
    | false =>
      refine ⟨by simp only [Bool.false_eq_true, if_false]; omega, fun j hj => ?_⟩
      obtain below | rfl := Nat.lt_succ_iff_lt_or_eq.mp hj
      · simpa using bits j below
      · simpa [set] using Nat.testBit_lt_two_pow lt
    | true =>
      refine ⟨by simp only [if_true]; omega, fun j hj => ?_⟩
      rw [if_pos rfl, Nat.add_comm]
      obtain below | rfl := Nat.lt_succ_iff_lt_or_eq.mp hj
      · rw [Nat.testBit_two_pow_add_gt below, bits j below]
      · rw [Nat.testBit_two_pow_add_eq, Nat.testBit_lt_two_pow lt, set, Bool.not_false]

theorem State.notIdleMask_eq (s : State) : s.notIdleMask =
    ((List.range 16).map fun j => if !decide ((s.lane (Fin.ofNat 16 j)).state = .idle) then 2 ^ j else 0).sum := by
  rw [State.notIdleMask, laneIds, ← List.map_coe_finRange_eq_range, List.map_map]
  refine congrArg List.sum (List.map_congr_left fun i _ => ?_)
  rw [Function.comp_apply, Fin.ofNat_val_eq_self]
  by_cases idle : (s.lane i).state = .idle <;> simp [idle]

theorem State.notIdleMask_lt (s : State) : s.notIdleMask < 2 ^ 16 := by
  rw [State.notIdleMask_eq]
  exact (testBit_sum_two_pow _ 16).1

theorem State.testBit_notIdleMask (s : State) (i : LaneId) :
    s.notIdleMask.testBit i.val = true ↔ (s.lane i).state ≠ .idle := by
  rw [State.notIdleMask_eq, (testBit_sum_two_pow (fun j => !decide ((s.lane (Fin.ofNat 16 j)).state = .idle)) 16).2 i.val
    i.isLt, Fin.ofNat_val_eq_self]
  simp

/-- What DEV_STAT holds, as a number. -/
theorem State.toNat_devStat (s : State) : s.devStat.toNat =
    s.dev.code + (if s.timing.owner.isSome then 16 else 0) + (if (s.mixEng 0).owner.isSome then 32 else 0)
      + (if (s.mixEng 1).owner.isSome then 64 else 0) + 65536 * s.notIdleMask := by
  have code : s.dev.code < 3 := by cases s.dev <;> decide
  have mask := s.notIdleMask_lt
  rw [State.devStat, BitVec.toNat_ofNat, Nat.mod_eq_of_lt]
  split_ifs <;> omega

theorem getLsbD_iff {w : Nat} (x : BitVec w) (j : Nat) : x.getLsbD j = true ↔ x.toNat / 2 ^ j % 2 = 1 := by
  rw [BitVec.getLsbD, Nat.testBit_eq_decide_div_mod_eq, decide_eq_true_iff]

theorem State.devStat_fields (s : State) :
    s.devStat.extractLsb' 0 2 = BitVec.ofNat 2 s.dev.code
      ∧ (s.devStat.getLsbD 4 = true ↔ s.timing.owner ≠ none)
      ∧ (s.devStat.getLsbD 5 = true ↔ (s.mixEng 0).owner ≠ none)
      ∧ (s.devStat.getLsbD 6 = true ↔ (s.mixEng 1).owner ≠ none)
      ∧ ∀ i : LaneId, s.devStat.getLsbD (16 + i.val) = true ↔ (s.lane i).state ≠ .idle := by
  have code : s.dev.code < 3 := by cases s.dev <;> decide
  have mask := s.notIdleMask_lt
  refine ⟨BitVec.eq_of_toNat_eq ?_, ?_, ?_, ?_, fun i => ?_⟩
  · rw [BitVec.extractLsb'_toNat, BitVec.toNat_ofNat, s.toNat_devStat, Nat.shiftRight_zero]
    split_ifs <;> omega
  · rw [getLsbD_iff, s.toNat_devStat, ← Option.isSome_iff_ne_none]
    split_ifs <;> simp [*] <;> omega
  · rw [getLsbD_iff, s.toNat_devStat, ← Option.isSome_iff_ne_none]
    split_ifs <;> simp [*] <;> omega
  · rw [getLsbD_iff, s.toNat_devStat, ← Option.isSome_iff_ne_none]
    split_ifs <;> simp [*] <;> omega
  · have high : s.devStat.toNat / 2 ^ 16 = s.notIdleMask := by
      rw [s.toNat_devStat]
      split_ifs <;> omega
    rw [getLsbD_iff, Nat.pow_add, ← Nat.div_div_eq_div_mul, high, ← s.testBit_notIdleMask,
      Nat.testBit_eq_decide_div_mod_eq, decide_eq_true_iff]

theorem State.readReg_of_notMem (s : State) {offset : Nat} (h : offset ∉ registerOffsets) : s.readReg offset = 0 := by
  unfold State.readReg
  split <;> first | exact absurd (show _ ∈ registerOffsets by decide) h | rfl

theorem leNat_append (xs ys : List Byte) : leNat (xs ++ ys) = leNat xs + 256 ^ xs.length * leNat ys := by
  induction xs with
  | nil => simp [leNat]
  | cons x xs ih =>
    rw [List.cons_append, leNat, leNat, ih, List.length_cons, Nat.pow_succ']
    ring

theorem leNat_wordBytes (x : BitVec 32) : leNat (leBytes 4 x.toNat) = x.toNat := by
  have lt : x.toNat < 256 ^ 4 := x.isLt
  rw [leNat_leBytes, Nat.mod_eq_of_lt lt]

theorem State.readBytes_within (s : State) {k n j : Nat} (h : j + n ≤ 4) :
    (s.readBytes (4 * k + j) n).length = n
      ∧ leNat (s.readBytes (4 * k + j) n) = (s.readReg (4 * k)).toNat / 256 ^ j % 256 ^ n := by
  cases n with
  | zero => simp [State.readBytes, leNat, Nat.mod_one]
  | succ n =>
    have word : (4 * k + j) / 4 * 4 = 4 * k := by omega
    have byte : (4 * k + j) % 4 = j := by omega
    rw [State.readBytes, word, byte]
    refine ⟨by simp; omega, ?_⟩
    change leField _ j (n + 1) = _
    rw [leField_append_left (by simpa using h), leField_eq, leNat_wordBytes]

theorem State.readBytes_double (s : State) (k : Nat) :
    leNat (s.readBytes (4 * k) 8) = (s.readReg (4 * k)).toNat + 2 ^ 32 * (s.readReg (4 * k + 4)).toNat := by
  have word : 4 * k / 4 * 4 = 4 * k := by omega
  have byte : 4 * k % 4 = 0 := by omega
  rw [State.readBytes, word, byte, List.drop_zero, List.take_of_length_le (by simp), leNat_append, leNat_wordBytes,
    leNat_wordBytes, length_leBytes]
  rfl

/-! ## What the part reads (R173, R175 to R177) -/

theorem RecKind.ofCode_eq_none_iff (code : Nat) : RecKind.ofCode code = none ↔ code = 0 ∨ 11 ≤ code := by
  by_cases small : code < 11
  · interval_cases code <;> decide
  · unfold RecKind.ofCode
    split <;> first | (exfalso; omega) | (simp; omega)

theorem toNat_byteAt (b : List Byte) (k : Nat) : (byteAt b k).toNat = leNat b / 256 ^ k % 256 := by
  induction b generalizing k with
  | nil => simp [byteAt, leNat]
  | cons x xs ih =>
    have low : x.toNat < 256 := x.isLt
    cases k with
    | zero =>
      change x.toNat = _
      rw [leNat]
      omega
    | succ k =>
      change (byteAt xs k).toNat = _
      have rest : (x.toNat + 256 * leNat xs) / 256 = leNat xs := by omega
      rw [ih, leNat, Nat.pow_succ', ← Nat.div_div_eq_div_mul, rest]

theorem leField_byte (b : List Byte) (off n j : Nat) (h : j < n) :
    leField b off n / 256 ^ j % 256 = (byteAt b (off + j)).toNat := by
  have byte : byteAt ((b.drop off).take n) j = byteAt b (off + j) := by
    simp [byteAt, List.getD_eq_getElem?_getD, h]
  rw [← byte, toNat_byteAt, leField]

theorem Header.ofBits_fields (h : BitVec 128) :
    (Header.ofBits h).kind = RecKind.ofCode (h.toNat % 256) ∧ (Header.ofBits h).notify = h.getLsbD 8
      ∧ (Header.ofBits h).gated = h.getLsbD 9 ∧ (Header.ofBits h).len = h.toNat / 2 ^ 16 % 2 ^ 16
      ∧ (Header.ofBits h).tag.toNat = h.toNat / 2 ^ 32 % 2 ^ 24 := by
  refine ⟨?_, rfl, rfl, ?_, ?_⟩ <;>
    simp only [Header.ofBits, BitVec.extractLsb'_toNat, Nat.shiftRight_eq_div_pow, Nat.pow_zero, Nat.div_one]

theorem OpenBody.offset_ofBytes (b : List Byte) : (OpenBody.ofBytes b).offset =
    if leField b 16 8 < 2 ^ 63 then (leField b 16 8 : Int) else (leField b 16 8 : Int) - 2 ^ 64 := by
  rw [OpenBody.ofBytes, BitVec.toInt_eq_toNat_cond, toNat_addrField]
  split_ifs <;> first | rfl | omega

theorem cueFields (c : RawCue) : cueSrcStart c = c.fixed.toNat % 2 ^ 48 ∧ cueSrcEnd c = c.fixed.toNat / 2 ^ 48 % 2 ^ 48
    ∧ (cueSlot c).toNat = c.fixed.toNat / 2 ^ 96 % 8 ∧ cueForced c = c.fixed.getLsbD 103
    ∧ (cueStyle c).toNat = c.fixed.toNat / 2 ^ 104 % 16 ∧ cueTextLen c = c.fixed.toNat / 2 ^ 112 := by
  have lt := c.fixed.isLt
  refine ⟨?_, ?_, ?_, rfl, ?_, ?_⟩
  all_goals simp only [cueSrcStart, cueSrcEnd, cueSlot, cueStyle, cueTextLen, BitVec.extractLsb'_toNat,
    Nat.shiftRight_eq_div_pow]
  all_goals omega

/-! ## Where the reads in flight go -/

/-- A read in flight is one of a lane's own, of an engine's, or the INSPECT's. -/
theorem State.mem_readsInFlight (s : State) (x : ReadRef × Addr × Nat) : x ∈ s.readsInFlight ↔
    ((((∃ i, (x ∈ s.ownReads i ∨ x ∈ s.pollReads i) ∨ x ∈ s.blockReads i) ∨ x ∈ s.clipReads 0) ∨ x ∈ s.clipReads 1)
      ∨ x ∈ s.compareReads) ∨ x ∈ s.port.entryReads := by
  simp [State.readsInFlight, List.mem_flatten, laneIds, or_assoc]

theorem State.mem_ownReads (s : State) (j : LaneId) (x : ReadRef × Addr × Nat) : x ∈ s.ownReads j ↔
    ((s.lane j).io = .read .entry true ∧ x = (.lane .entry j, laneEntry s.dirBase j, 8))
      ∨ (∃ skip, (s.lane j).io = .read (.header skip) true ∧ x = (.lane .record j, (s.lane j).fetchAddr, 16))
      ∨ (∃ h, (s.lane j).io = .read (.body h) true ∧ x = (.lane .record j, (s.lane j).fetchAddr + 16, h.len - 16))
      ∨ (∃ c, (s.lane j).io = .read .intake true ∧ (s.lane j).cur = some c
          ∧ x = (.lane .intake j, (CuesBody.ofBytes c.fields).addr + BitVec.ofNat 64 c.ex.cursor, 16)) := by
  unfold State.ownReads
  dsimp only
  cases (s.lane j).io with
  | idle => simp
  | seq q => simp
  | read r issued =>
    cases issued <;> cases r <;> try simp
    cases (s.lane j).cur <;> simp

theorem State.mem_pollReads (s : State) (j : LaneId) (x : ReadRef × Addr × Nat) : x ∈ s.pollReads j ↔
    ∃ c, (s.lane j).gate.poll = .outstanding ∧ (s.lane j).cur = some c ∧ x = (.lane .poll j, c.gateAddr, 4) := by
  unfold State.pollReads
  cases (s.lane j).gate.poll <;> cases (s.lane j).cur <;> simp

theorem State.mem_blockReads (s : State) (j : LaneId) (x : ReadRef × Addr × Nat) : x ∈ s.blockReads j ↔
    ∃ off k b, (s.lane j).pf.outstanding = .live off k ∧ (s.lane j).mixBody = some b
      ∧ x = (.lane .block j, frameAddr b.prog (s.lane j).par.chans off, 2 * (k * (s.lane j).par.chans)) := by
  unfold State.blockReads
  dsimp only
  cases (s.lane j).pf.outstanding <;> cases (s.lane j).mixBody <;> simp

theorem Lane.headBlock_iff (l : Lane) (off k : Nat) (samples : List (BitVec 16)) :
    l.headBlock = some (off, k, samples) ↔ ∃ rest, l.pf.queue = .read off k samples :: rest := by
  unfold Lane.headBlock
  split <;> simp [*]

theorem State.mem_clipReads (s : State) (e : MixId) (x : ReadRef × Addr × Nat) : x ∈ s.clipReads e ↔
    ∃ (j : LaneId) (off k : Nat) (samples : List (BitVec 16)) (clip : ClipEntry),
      (s.mixEng e).owner = some j ∧ (s.mixEng e).phase = .reading
        ∧ (∃ rest, (s.lane j).pf.queue = .read off k samples :: rest)
        ∧ clip ∈ neededClips (s.mixEng e).view (s.lane j).par.chans ((s.lane j).base + off) k
        ∧ x = (.lane .clipSamples j, clip.pcm + BitVec.ofNat 64 (2 * runFirst clip ((s.lane j).base + off)),
          2 * runCount clip ((s.lane j).base + off) k) := by
  unfold State.clipReads
  dsimp only
  simp only [← Lane.headBlock_iff]
  cases owner : (s.mixEng e).owner with
  | none => simp
  | some j =>
    cases phase : (s.mixEng e).phase with
    | idle => simp
    | writing => simp
    | reading =>
      cases head : (s.lane j).headBlock with
      | none => simp [head]
      | some b =>
        obtain ⟨off, k, samples⟩ := b
        simp [head, eq_comm]

theorem State.mem_compareReads (s : State) (x : ReadRef × Addr × Nat) : x ∈ s.compareReads ↔
    ∃ j c, s.timing.owner = some j ∧ s.timing.unit = .compare ∧ (s.lane j).cur = some c
      ∧ x = (.lane .compare j, segmentAddr c, s.timing.buffer.length) := by
  unfold State.compareReads
  cases s.timing.owner with
  | none => simp
  | some j =>
    cases s.timing.unit with
    | compare => cases h : (s.lane j).cur <;> simp [h]
    | _ => simp

theorem CmdPort.mem_entryReads (p : CmdPort) (x : ReadRef × Addr × Nat) : x ∈ p.entryReads ↔
    ∃ j, p.job = some j ∧ j.phase = .entryRead ∧ x = (.inspectEntry, laneEntry j.base j.snap.lane + 8, 12) := by
  unfold CmdPort.entryReads
  cases p.job with
  | none => simp
  | some j => cases h : j.phase <;> simp [h]

theorem Lane.fetchAddr_eq (l : Lane) : l.fetchAddr =
    match l.cur with
    | some c => c.addr
    | none => l.next.getD 0 := rfl

theorem sharedReads (s : State) (i : LaneId) (a : Addr) (n : Nat) :
      let l := s.lane i
      let at_ : Addr := match l.cur with
        | some c => c.addr
        | none => l.next.getD 0
      ((.lane .entry i, a, n) ∈ s.readsInFlight ↔
          l.io = .read .entry true ∧ a = s.dirBase + BitVec.ofNat 64 (64 * i.val) ∧ n = 8)
        ∧ ((.lane .record i, a, n) ∈ s.readsInFlight ↔
          (∃ skip, l.io = .read (.header skip) true ∧ a = at_ ∧ n = 16)
            ∨ ∃ h, l.io = .read (.body h) true ∧ a = at_ + 16 ∧ n = h.len - 16)
        ∧ ((.lane .poll i, a, n) ∈ s.readsInFlight ↔
          l.gate.poll = .outstanding ∧ ∃ c, l.cur = some c ∧ a = BitVec.ofNat 64 (leField c.body 0 8) ∧ n = 4)
        ∧ ((.lane .intake i, a, n) ∈ s.readsInFlight ↔
          l.io = .read .intake true ∧ ∃ c, l.cur = some c
            ∧ a = BitVec.ofNat 64 (leField c.fields 0 8) + BitVec.ofNat 64 c.ex.cursor ∧ n = 16)
        ∧ ((.lane .compare i, a, n) ∈ s.readsInFlight ↔
          s.timing.owner = some i ∧ s.timing.unit = .compare ∧ ∃ c, l.cur = some c
            ∧ a = BitVec.ofNat 64 (leField c.fields 8 8) + BitVec.ofNat 64 c.ex.areaOff ∧ n = s.timing.buffer.length)
        ∧ ((.lane .block i, a, n) ∈ s.readsInFlight ↔
          ∃ off k c, l.pf.outstanding = .live off k ∧ l.cur = some c ∧ c.kind = some .mix
            ∧ a = BitVec.ofNat 64 (leField c.fields 0 8) + BitVec.ofNat 64 (2 * (off * l.par.chans))
            ∧ n = 2 * (k * l.par.chans))
        ∧ ((.lane .clipSamples i, a, n) ∈ s.readsInFlight ↔
          ∃ (e : MixId) (off k : Nat) (samples : List (BitVec 16)) (rest : List QBlock) (x : ClipEntry),
            (s.mixEng e).owner = some i ∧ (s.mixEng e).phase = .reading ∧ l.pf.queue = .read off k samples :: rest
              ∧ x ∈ neededClips (s.mixEng e).view l.par.chans (l.base + off) k
              ∧ a = x.pcm + BitVec.ofNat 64 (2 * runFirst x (l.base + off)) ∧ n = 2 * runCount x (l.base + off) k)
        ∧ ((.inspectEntry, a, n) ∈ s.readsInFlight ↔
          ∃ j, s.port.job = some j ∧ j.phase = .entryRead
            ∧ a = j.base + BitVec.ofNat 64 (64 * j.snap.lane.val) + 8 ∧ n = 12) := by
  intro l at_
  simp only [State.mem_readsInFlight, State.mem_ownReads, State.mem_pollReads, State.mem_blockReads,
    State.mem_clipReads, State.mem_compareReads, CmdPort.mem_entryReads, Prod.mk.injEq, ReadRef.lane.injEq, reduceCtorEq,
    false_and, and_false, exists_false, or_false, false_or, true_and]
  refine ⟨⟨?_, ?_⟩, ⟨?_, ?_⟩, ⟨?_, ?_⟩, ⟨?_, ?_⟩, ⟨?_, ?_⟩, ⟨?_, ?_⟩, ⟨?_, ?_⟩, Iff.rfl⟩
  · rintro ⟨_, io, rfl, at_, size⟩
    exact ⟨io, at_, size⟩
  · rintro ⟨io, at_, size⟩
    exact ⟨i, io, rfl, at_, size⟩
  · rintro ⟨_, ⟨skip, io, rfl, at_, size⟩ | ⟨h, io, rfl, at_, size⟩⟩
    · exact .inl ⟨skip, io, at_, size⟩
    · exact .inr ⟨h, io, at_, size⟩
  · rintro (⟨skip, io, at_, size⟩ | ⟨h, io, at_, size⟩)
    · exact ⟨i, .inl ⟨skip, io, rfl, at_, size⟩⟩
    · exact ⟨i, .inr ⟨h, io, rfl, at_, size⟩⟩
  · rintro ⟨_, c, poll, cur, rfl, at_, size⟩
    exact ⟨poll, c, cur, at_, size⟩
  · rintro ⟨poll, c, cur, at_, size⟩
    exact ⟨i, c, poll, cur, rfl, at_, size⟩
  · rintro ⟨_, c, io, cur, rfl, at_, size⟩
    exact ⟨io, c, cur, at_, size⟩
  · rintro ⟨io, c, cur, at_, size⟩
    exact ⟨i, c, io, cur, rfl, at_, size⟩
  · rintro ⟨_, c, owner, unit, cur, rfl, at_, size⟩
    exact ⟨owner, unit, c, cur, at_, size⟩
  · rintro ⟨owner, unit, c, cur, at_, size⟩
    exact ⟨i, c, owner, unit, cur, rfl, at_, size⟩
  · rintro ⟨_, off, k, b, live, mix, rfl, at_, size⟩
    obtain ⟨c, cur, kind, rfl⟩ := (Lane.mixBody_some_iff _ _).mp mix
    exact ⟨off, k, c, live, cur, kind, at_, size⟩
  · rintro ⟨off, k, c, live, cur, kind, at_, size⟩
    exact ⟨i, off, k, _, live, (Lane.mixBody_some_iff _ _).mpr ⟨c, cur, kind, rfl⟩, rfl, at_, size⟩
  · rintro (⟨_, off, k, samples, x, owner, phase, ⟨rest, queue⟩, need, rfl, at_, size⟩ |
      ⟨_, off, k, samples, x, owner, phase, ⟨rest, queue⟩, need, rfl, at_, size⟩)
    · exact ⟨0, off, k, samples, rest, x, owner, phase, queue, need, at_, size⟩
    · exact ⟨1, off, k, samples, rest, x, owner, phase, queue, need, at_, size⟩
  · rintro ⟨e, off, k, samples, rest, x, owner, phase, queue, need, at_, size⟩
    obtain rfl | rfl := (show ∀ e : MixId, e = 0 ∨ e = 1 by decide) e
    · exact .inl ⟨i, off, k, samples, x, owner, phase, ⟨rest, queue⟩, need, rfl, at_, size⟩
    · exact .inr ⟨i, off, k, samples, x, owner, phase, ⟨rest, queue⟩, need, rfl, at_, size⟩

/-- Settles O27: the writes, the registers, the codes, the fields read, and the reads in flight. -/
theorem sharedFormats : Obligations.SharedFormats := by
  refine ⟨fun _ _ _ => rfl, fun s i r => ?_, fun c r other => ?_, fun c r emit => ?_, statusBytes_fields,
    resultBytes_fields, Notice.bytes_fields, fun _ _ => rfl, fun s => ⟨?_, ?_, ?_, ?_, s.port.read_eq, s.devStat_fields⟩,
    fun s _ => s.readReg_of_notMem, fun s k n j within _ => s.readBytes_within within, State.readBytes_double,
    ⟨rfl, rfl, rfl, rfl, rfl, rfl⟩, RecKind.ofCode_eq_none_iff, fun b off n => ⟨leField_lt b off n, leField_byte b off n⟩,
    Header.ofBits_fields, fun b => ?_, fun _ => rfl, fun _ => rfl, fun _ => rfl, fun _ => rfl, cueFields,
    fun b => ⟨toNat_inlineFixed b, ?_⟩, sharedReads⟩
  · rw [restStep, restStateBytes_eq]
    rfl
  · rw [statusSteps, if_neg other, List.nil_append]
  · rw [statusSteps, if_pos emit, Record.resultsAddr_eq, List.singleton_append]
  · refine BitVec.eq_of_toNat_eq ?_
    have lt := s.dirBase.isLt
    simp only [toNat_append_eq, State.readReg, BitVec.extractLsb'_toNat, Nat.shiftRight_eq_div_pow]
    omega
  · exact setWidth_eq_append s.pend
  · exact setWidth_eq_append s.mask
  · simp only [State.readReg, State.hold, decide_not, Bool.not_eq_true', decide_eq_false_iff_not, ite_not]
  · rw [← OpenBody.offset_ofBytes]
    rfl
  · rw [← cueTextLen_inlineCue]
    rfl

end Sys2Proof.Machine
end

section
/-! What may be in flight in each lane state (R116, R118, R131, R143, R145), on one lane: what follows from the state a lane
is in, and that reads, write sequences, retirements and halts keep it. -/

namespace Sys2Proof.Machine

open Sys2Proof

/-! ## A lane that holds what its state allows -/

/-- One lane's part of `State.Shapely`. -/
structure Lane.Fits (l : Lane) (owned : Bool) : Prop where
  transfer : l.TransferFits owned
  poll : l.PollFits
  block : l.BlockReadFits
  deferred : l.DeferredFits
  engine : l.EngineFits owned

theorem State.shapely_iff (s : State) : s.Shapely ↔ s.EnginesApart ∧ ∀ i, (s.lane i).Fits (s.ownsEngine i) :=
  and_congr_right fun _ => forall_congr' fun _ =>
    ⟨fun ⟨transfer, poll, block, deferred, engine⟩ => ⟨transfer, poll, block, deferred, engine⟩,
      fun ⟨transfer, poll, block, deferred, engine⟩ => ⟨transfer, poll, block, deferred, engine⟩⟩

theorem State.Shapely.fits {s : State} (sh : s.Shapely) (i : LaneId) : (s.lane i).Fits (s.ownsEngine i) :=
  (s.shapely_iff.mp sh).2 i

/-- The lane state in which a read is made. -/
def LaneRead.home : LaneRead → LaneState
  | .intake => .waitData
  | .entry | .header _ | .body _ => .fetching

/-- The lane states in which a sequence that is no teardown is written. -/
def SeqKind.homes : SeqKind → List LaneState
  | .retire _ | .entryHalt | .rehalt => [.retiring]
  | .linkPass => [.fetching]
  | .stop => [.stopped, .fetching]
  | .teardown => []

section Transfer

variable {l : Lane} {o : Bool}

theorem Lane.transferFits_idle (io : l.io = .idle) : l.TransferFits o := by
  unfold Lane.TransferFits
  rw [io]
  trivial

theorem Lane.transferFits_read {r : LaneRead} {issued : Bool} (io : l.io = .read r issued) :
    l.TransferFits o ↔ l.state = r.home ∨ (l.state = .abandoning ∧ issued = true) := by
  unfold Lane.TransferFits
  rw [io]
  cases r <;> rfl

theorem Lane.transferFits_seq {q : WriteSeq} (io : l.io = .seq q) (kind : q.kind ≠ .teardown) :
    l.TransferFits o ↔ l.state ∈ q.kind.homes ∨ (l.state = .abandoning ∧ q.begun = true) := by
  unfold Lane.TransferFits
  rw [io]
  dsimp only
  cases k : q.kind
  case teardown => exact absurd k kind
  all_goals simp [SeqKind.homes, or_assoc]

theorem Lane.transferFits_teardown {q : WriteSeq} (io : l.io = .seq q) (kind : q.kind = .teardown) :
    l.TransferFits o ↔ l.state = .abandoning ∧ q.begun = true ∧ l.store = [] ∧ l.table = [] ∧ o = false
      ∧ ∃ n, q.steps.getLast? = some (.notice n) := by
  unfold Lane.TransferFits
  rw [io]
  dsimp only
  rw [kind]

end Transfer

/-- No teardown is on the way. -/
def Lane.Steady (l : Lane) : Prop := ∀ q, l.io = .seq q → q.kind ≠ .teardown

/-- No notice is deferred, no gate poll is made, no engine is held. -/
structure Lane.Calm (l : Lane) (owned : Bool) : Prop where
  deferred : l.deferred = none
  poll : l.gate.poll = .none
  free : owned = false

/-- A calm lane without a live block read: it may take up any transfer that its new state allows. -/
structure Lane.Bare (l : Lane) (owned : Bool) : Prop extends l.Calm owned where
  block : ∀ off k, l.pf.outstanding ≠ .live off k

theorem Lane.Calm.fits {l : Lane} {o : Bool} (calm : l.Calm o) (block : l.BlockReadFits) (transfer : l.TransferFits o) :
    l.Fits o :=
  ⟨transfer, fun poll => absurd calm.poll poll, block, fun some => by simp [calm.deferred] at some,
    fun owned => absurd (calm.free.symm.trans owned) (by decide)⟩

theorem Lane.Bare.fits {l : Lane} {o : Bool} (bare : l.Bare o) (transfer : l.TransferFits o) : l.Fits o :=
  bare.toCalm.fits (fun off k live => absurd live (bare.block off k)) transfer

/-- A lane at rest with a notice deferred, or none. -/
theorem Lane.Bare.fits_rest {l : Lane} {o : Bool} (bare : ({ l with deferred := none } : Lane).Bare o)
    (deferred : l.deferred.isSome = true → l.slot = none)
    (rest : l.state = .noticeWait ∨ l.state = .stopped ∨ l.state = .halted ∨ l.state = .abandoning)
    (io : l.io = .idle) : l.Fits o :=
  ⟨Lane.transferFits_idle io, fun poll => absurd bare.poll poll,
    fun off k live => absurd live (bare.block off k), fun some => ⟨deferred some, .inl ⟨rest, io⟩⟩,
    fun owned => absurd (bare.free.symm.trans owned) (by decide)⟩

/-- A lane without a teardown may change its track and what else its transfer does not depend on. -/
theorem Lane.TransferFits.steady {l m : Lane} {o o' : Bool} (h : l.TransferFits o) (steady : l.Steady)
    (io : m.io = l.io) (state : m.state = l.state) : m.TransferFits o' := by
  cases own : l.io with
  | idle => exact Lane.transferFits_idle (io.trans own)
  | read r issued =>
    rw [Lane.transferFits_read own] at h
    rwa [Lane.transferFits_read (io.trans own), state]
  | seq q =>
    rw [Lane.transferFits_seq own (steady q own)] at h
    rwa [Lane.transferFits_seq (io.trans own) (steady q own), state]

theorem Lane.TransferFits.release {l : Lane} {o : Bool} (h : l.TransferFits o) : l.TransferFits false := by
  by_cases steady : l.Steady
  · exact h.steady steady rfl rfl
  · simp only [Lane.Steady, not_forall, ne_eq, not_not] at steady
    obtain ⟨q, io, kind⟩ := steady
    obtain ⟨state, begun, store, table, -, last⟩ := (Lane.transferFits_teardown io kind).mp h
    exact (Lane.transferFits_teardown io kind).mpr ⟨state, begun, store, table, rfl, last⟩

theorem Lane.Fits.release {l : Lane} {o o' : Bool} (fit : l.Fits o) (less : o' = true → o = true) : l.Fits o' := by
  cases o'
  · exact ⟨fit.transfer.release, fit.poll, fit.block, fit.deferred, nofun⟩
  · rwa [less rfl] at fit

section FromState

variable {l : Lane} {o : Bool} (fit : l.Fits o)
include fit

theorem Lane.Fits.teardown {q : WriteSeq} (io : l.io = .seq q) (kind : q.kind = .teardown) :
    l.state = .abandoning ∧ q.begun = true ∧ l.store = [] ∧ l.table = [] ∧ o = false
      ∧ ∃ n, q.steps.getLast? = some (.notice n) :=
  (Lane.transferFits_teardown io kind).mp fit.transfer

theorem Lane.Fits.steady (h : l.state ≠ .abandoning ∨ o = true) : l.Steady := by
  intro q io kind
  obtain ⟨state, -, -, -, owned, -⟩ := fit.teardown io kind
  obtain h | h := h
  · exact h state
  · exact absurd (owned.symm.trans h) (by decide)

theorem Lane.Fits.deferred_none (wait : l.state ≠ .noticeWait) (stopped : l.state ≠ .stopped)
    (halted : l.state ≠ .halted) (ab : l.state ≠ .abandoning) : l.deferred = none := by
  by_contra some
  obtain ⟨-, rest | ⟨q, io, kind⟩⟩ := fit.deferred (Option.isSome_iff_ne_none.mpr some)
  · simp [wait, stopped, halted, ab] at rest
  · exact ab (fit.teardown io kind).1

/-- A sequence other than a teardown is under way with no notice deferred. -/
theorem Lane.Fits.deferred_of_seq {q : WriteSeq} (io : l.io = .seq q) (kind : q.kind ≠ .teardown) :
    l.deferred = none := by
  by_contra some
  obtain ⟨-, ⟨-, idle⟩ | ⟨q', io', kind'⟩⟩ := fit.deferred (Option.isSome_iff_ne_none.mpr some)
  · rw [io] at idle
    cases idle
  · rw [io] at io'
    cases io'
    exact kind kind'

theorem Lane.Fits.deferred_of_slot (slot : l.slot ≠ none) : l.deferred = none := by
  by_contra some
  exact slot (fit.deferred (Option.isSome_iff_ne_none.mpr some)).1

theorem Lane.Fits.poll_none (gated : l.state ≠ .gated) (ab : l.state ≠ .abandoning) : l.gate.poll = .none := by
  by_contra poll
  have := fit.poll poll
  simp [gated, ab] at this

theorem Lane.Fits.not_owned (working : l.state ≠ .working) (ab : l.state ≠ .abandoning) : o = false := by
  by_contra owned
  have := fit.engine ((Bool.not_eq_false o).mp owned)
  simp [working, ab] at this

theorem Lane.Fits.no_live (wait : l.state ≠ .waitData) (queued : l.state ≠ .queued) (working : l.state ≠ .working)
    (off k : Nat) : l.pf.outstanding ≠ .live off k := by
  intro live
  have := fit.block off k live
  simp [wait, queued, working] at this

theorem Lane.Fits.calm (state : l.state = .waitData ∨ l.state = .queued ∨ l.state = .working) (free : o = false) :
    l.Calm o := by
  refine ⟨fit.deferred_none ?_ ?_ ?_ ?_, fit.poll_none ?_ ?_, free⟩ <;>
    obtain state | state | state := state <;> rw [state] <;> decide

theorem Lane.Fits.calm_of_waiting (state : l.state = .waitData ∨ l.state = .queued) : l.Calm o := by
  refine fit.calm (state.imp_right .inl) (fit.not_owned ?_ ?_) <;>
    obtain state | state := state <;> rw [state] <;> decide

theorem Lane.Fits.bare (state : l.state = .idle ∨ l.state = .fetching ∨ l.state = .retiring) : l.Bare o := by
  refine ⟨⟨fit.deferred_none ?_ ?_ ?_ ?_, fit.poll_none ?_ ?_, fit.not_owned ?_ ?_⟩, fit.no_live ?_ ?_ ?_⟩ <;>
    obtain state | state | state := state <;> rw [state] <;> decide

/-- A lane at rest is bare but for its deferred notice. -/
theorem Lane.Fits.bare_rest (state : l.state = .noticeWait ∨ l.state = .stopped ∨ l.state = .halted) :
    ({ l with deferred := none } : Lane).Bare o := by
  refine ⟨⟨rfl, fit.poll_none ?_ ?_, fit.not_owned ?_ ?_⟩, fit.no_live ?_ ?_ ?_⟩ <;>
    obtain state | state | state := state <;> rw [state] <;> decide

theorem Lane.Fits.bare_of_rest (state : l.state = .noticeWait ∨ l.state = .stopped ∨ l.state = .halted)
    (deferred : l.deferred = none) : l.Bare o :=
  have bare := fit.bare_rest state
  ⟨⟨deferred, bare.poll, bare.free⟩, bare.block⟩

/-- A lane with a sequence under way is bare, but for a teardown and while it is abandoned. -/
theorem Lane.Fits.bare_of_seq {q : WriteSeq} (io : l.io = .seq q) (kind : q.kind ≠ .teardown)
    (ab : l.state ≠ .abandoning) : l.Bare o := by
  have home := ((Lane.transferFits_seq io kind).mp fit.transfer).resolve_right fun h => ab h.1
  have state : l.state = .retiring ∨ l.state = .fetching ∨ l.state = .stopped := by
    revert home
    cases q.kind <;> simp +contextual [SeqKind.homes, or_comm]
  obtain state | state | state := state
  · exact fit.bare (.inr (.inr state))
  · exact fit.bare (.inr (.inl state))
  · exact fit.bare_of_rest (.inr (.inl state)) (fit.deferred_of_seq io kind)

/-- What of a lane may change while no teardown is on the way. -/
theorem Lane.Fits.track {m : Lane} (steady : l.Steady) (state : m.state = l.state) (io : m.io = l.io)
    (poll : m.gate.poll = l.gate.poll) (block : m.pf.outstanding = l.pf.outstanding) (deferred : m.deferred = l.deferred)
    (slot : m.slot = l.slot) : m.Fits o :=
  ⟨fit.transfer.steady steady io state, by unfold Lane.PollFits; rw [poll, state]; exact fit.poll,
    by unfold Lane.BlockReadFits; rw [block, state]; exact fit.block,
    by unfold Lane.DeferredFits; rw [deferred, slot, state, io]; exact fit.deferred,
    by unfold Lane.EngineFits; rw [state]; exact fit.engine⟩

end FromState

/-! ## The state around one lane -/

@[simp] theorem State.ownsEngine_setLane (s : State) (i j : LaneId) (l : Lane) :
    (s.setLane i l).ownsEngine j = s.ownsEngine j := rfl

@[simp] theorem State.ownsEngine_modLane (s : State) (i j : LaneId) (f : Lane → Lane) :
    (s.modLane i f).ownsEngine j = s.ownsEngine j := rfl

/-- A step that changes lane i alone, and who owns the engines not at all. -/
theorem State.Shapely.aside {s t : State} {i : LaneId} (sh : s.Shapely) (others : ∀ j, j ≠ i → t.lane j = s.lane j)
    (timing : t.timing.owner = s.timing.owner) (mix : ∀ e, (t.mixEng e).owner = (s.mixEng e).owner)
    (fit : (t.lane i).Fits (s.ownsEngine i)) : t.Shapely := by
  obtain ⟨apart, fits⟩ := s.shapely_iff.mp sh
  refine t.shapely_iff.mpr ⟨?_, fun j => ?_⟩
  · unfold State.EnginesApart
    rw [timing, mix, mix]
    exact apart
  · have owns : t.ownsEngine j = s.ownsEngine j := by
      unfold State.ownsEngine
      rw [timing, mix, mix]
    rw [owns]
    by_cases h : j = i
    · rw [h]
      exact fit
    · rw [others j h]
      exact fits j

theorem State.Shapely.setLane {s : State} {i : LaneId} {l : Lane} (sh : s.Shapely) (fit : l.Fits (s.ownsEngine i)) :
    (s.setLane i l).Shapely :=
  sh.aside (i := i) (fun _ h => State.lane_setLane_ne s l h) rfl (fun _ => rfl)
    (by rw [State.lane_setLane_same]; exact fit)

theorem State.Shapely.modLane {s : State} {i : LaneId} {f : Lane → Lane} (sh : s.Shapely)
    (fit : (f (s.lane i)).Fits (s.ownsEngine i)) : (s.modLane i f).Shapely := sh.setLane fit

/-! ## Reads -/

theorem State.Shapely.startRead {s : State} {i : LaneId} {r : LaneRead} (sh : s.Shapely)
    (bare : (s.lane i).Bare (s.ownsEngine i)) (own : r ≠ .intake) : (s.startRead i .fetching r).Shapely := by
  refine sh.setLane (Lane.Bare.fits ⟨⟨bare.deferred, bare.poll, bare.free⟩, bare.block⟩ ?_)
  cases r
  case intake => exact absurd rfl own
  all_goals exact .inl rfl

theorem State.Shapely.startIntake {s : State} {i : LaneId} (sh : s.Shapely)
    (calm : (s.lane i).Calm (s.ownsEngine i)) : (s.startRead i .waitData .intake).Shapely :=
  sh.setLane (Lane.Calm.fits ⟨calm.deferred, calm.poll, calm.free⟩ (fun _ _ _ => .inl rfl) (.inl rfl))

theorem State.Shapely.resumeNow {s : State} {i : LaneId} (sh : s.Shapely)
    (bare : (s.lane i).Bare (s.ownsEngine i)) : (s.resumeNow i).Shapely :=
  sh.startRead bare (by split <;> decide)

/-! ## Write sequences -/

theorem Lane.workEnded_block (l : Lane) (off k : Nat) : l.workEnded.pf.outstanding ≠ .live off k := by
  unfold Lane.workEnded
  dsimp only
  split <;> exact nofun

/-- A lane whose work has ended is bare when it has neither a deferred notice nor an engine. -/
theorem Lane.workEnded_bare {l : Lane} {o : Bool} (deferred : l.deferred = none) (free : o = false) :
    l.workEnded.Bare o := ⟨⟨deferred, rfl, free⟩, l.workEnded_block⟩

/-- The end of a teardown. -/
theorem Lane.tornDown_fits {l : Lane} {o : Bool} (deferred : l.deferred = none) (free : o = false) (failed : Bool) :
    (l.tornDown failed).Fits o := by
  refine Lane.Bare.fits ⟨⟨deferred, rfl, free⟩, fun off k => ?_⟩ trivial
  change l.pf.outstanding.makeStale ≠ _
  rw [BlockRead.makeStale_eq]
  split <;> exact nofun

/-- The end of a sequence's event, with its notice kept as deferred or with none. -/
theorem Lane.Fits.eventEnded {l : Lane} {o : Bool} {q : WriteSeq} (fit : l.Fits o) (io : l.io = .seq q)
    (kind : q.kind ≠ .teardown) (hold : Bool) :
    (l.eventEnded q false hold).Fits o
      ∧ (l.slot = none → ∀ n, ({ l.eventEnded q true hold with deferred := some n } : Lane).Fits o) := by
  have deferred := fit.deferred_of_seq io kind
  by_cases ab : l.state = .abandoning
  · simp only [Lane.eventEnded, if_pos ab]
    refine ⟨⟨trivial, fit.poll, fit.block, fun some => ?_, fit.engine⟩,
      fun slot n => ⟨trivial, fit.poll, fit.block, fun _ => ⟨slot, .inl ⟨.inr (.inr (.inr ab)), rfl⟩⟩, fit.engine⟩⟩
    simp [deferred] at some
  · have bare : l.Bare o := fit.bare_of_seq io kind ab
    have halted (d : Option Notice) (h : d.isSome = true → l.slot = none) :
        ({ l with state := .halted, io := .idle, deferred := d } : Lane).Fits o :=
      Lane.Bare.fits_rest ⟨⟨rfl, bare.poll, bare.free⟩, bare.block⟩ h (.inr (.inr (.inl rfl))) rfl
    have stopped (st : l.state = .stopped) (d : Option Notice) (h : d.isSome = true → l.slot = none) :
        ({ l with io := .idle, deferred := d } : Lane).Fits o :=
      Lane.Bare.fits_rest ⟨⟨rfl, bare.poll, bare.free⟩, bare.block⟩ h (.inr (.inl st)) rfl
    have waits (slot : l.slot = none) (n : Notice) :
        ({ l with state := .noticeWait, waitAct := .fetch, io := .idle, deferred := some n } : Lane).Fits o :=
      Lane.Bare.fits_rest ⟨⟨rfl, bare.poll, bare.free⟩, bare.block⟩ (fun _ => slot) (.inl rfl) rfl
    have fetches : ({ l with state := .fetching, io := .read (.header false) (!hold) } : Lane).Fits o :=
      Lane.Bare.fits ⟨⟨bare.deferred, bare.poll, bare.free⟩, bare.block⟩ (.inl rfl)
    have none (h : l.deferred.isSome = true) : l.slot = none := by simp [deferred] at h
    simp only [Lane.eventEnded, if_neg ab]
    revert kind
    cases q.kind <;> intro kind
    case teardown => exact absurd rfl kind
    case entryHalt => exact ⟨halted _ none, fun slot n => halted _ fun _ => slot⟩
    case rehalt => exact ⟨halted _ none, fun slot n => halted _ fun _ => slot⟩
    case linkPass => exact ⟨fetches, fun slot n => waits slot n⟩
    case retire r =>
      dsimp only
      split
      · exact ⟨halted _ none, fun slot n => halted _ fun _ => slot⟩
      · exact ⟨fetches, fun slot n => waits slot n⟩
    case stop =>
      dsimp only
      split
      next st => exact ⟨stopped st _ none, fun slot n => stopped st _ fun _ => slot⟩
      · exact ⟨fetches, fun slot n => waits slot n⟩

theorem Lane.Fits.noticeHanded {l : Lane} {o : Bool} {q : WriteSeq} (fit : l.Fits o) (io : l.io = .seq q) (n : Notice)
    (pend hold : Bool) : (l.noticeHanded q n pend hold).Fits o := by
  unfold Lane.noticeHanded
  split
  · exact fit
  next slot =>
    rw [ne_eq, not_not] at slot
    split
    · exact ⟨fit.transfer, fit.poll, fit.block, nofun, fit.engine⟩
    next kind =>
      split
      · exact (fit.eventEnded io kind hold).2 slot n
      · have deferred := fit.deferred_of_seq io kind
        refine ⟨fit.transfer, fit.poll, fit.block, fun some => ?_, fit.engine⟩
        simp [deferred] at some

theorem State.Shapely.finishSeq {s : State} {i : LaneId} {q : WriteSeq} (sh : s.Shapely) (io : (s.lane i).io = .seq q)
    (deferred : (s.lane i).deferred = none) : (s.finishSeq i q false).Shapely := by
  by_cases kind : q.kind = .teardown
  · rw [State.finishSeq_teardown _ kind]
    exact sh.setLane (Lane.tornDown_fits deferred ((sh.fits i).teardown io kind).2.2.2.2.1 _)
  · rw [State.finishSeq_eq _ kind]
    exact sh.setLane ((sh.fits i).eventEnded io kind _).1

theorem State.Shapely.runSeq {s : State} (sh : s.Shapely) (i : LaneId) : (s.runSeq i).Shapely := by
  unfold State.runSeq
  split
  next q io =>
    split
    · split
      next nil =>
        refine sh.finishSeq io ((sh.fits i).deferred_of_seq io fun kind => ?_)
        obtain ⟨n, last⟩ := ((sh.fits i).teardown io kind).2.2.2.2.2
        rw [nil] at last
        cases last
      · rw [State.handNotice_eq]
        exact sh.setLane ((sh.fits i).noticeHanded io _ _ _)
      · exact sh
    · exact sh
  · exact sh
  · exact sh

theorem State.Shapely.startSeq {s : State} {i : LaneId} {st : LaneState} {k : SeqKind} {steps : List SeqStep}
    {begun : Bool} (sh : s.Shapely)
    (fit : ({ s.lane i with
      state := st, io := .seq { kind := k, steps := steps, begun := begun, failed := false } } : Lane).Fits
        (s.ownsEngine i)) : (s.startSeq i st k steps begun).Shapely := (sh.modLane fit).runSeq i

/-- The head write of a sequence is taken from it, accepted or refused. -/
theorem State.Shapely.popStep {s : State} {i : LaneId} {q : WriteSeq} {k : WriteKind} {a : Addr} {b : List Byte}
    {rest : List SeqStep} (sh : s.Shapely) (io : (s.lane i).io = .seq q) (steps : q.steps = .write k a b :: rest)
    (failed : Bool) : (s.popStep i { q with failed := failed }).Shapely := by
  have fit := sh.fits i
  refine State.Shapely.runSeq (sh.modLane ⟨?_, fit.poll, fit.block, ?_, fit.engine⟩) i
  · by_cases kind : q.kind = .teardown
    · obtain ⟨state, begun, store, table, free, n, last⟩ := fit.teardown io kind
      refine (Lane.transferFits_teardown (q := { q with steps := q.steps.tail, failed := failed }) rfl kind).mpr
        ⟨state, begun, store, table, free, n, ?_⟩
      dsimp only
      rw [steps] at last ⊢
      cases rest with
      | nil => simp at last
      | cons w rest => simpa using last
    · exact (Lane.transferFits_seq (q := { q with steps := q.steps.tail, failed := failed }) rfl kind).mpr
        ((Lane.transferFits_seq io kind).mp fit.transfer)
  · intro some
    obtain ⟨slot, ⟨-, idle⟩ | ⟨q', io', kind⟩⟩ := fit.deferred some
    · rw [io] at idle
      cases idle
    · rw [io] at io'
      cases io'
      exact ⟨slot, .inr ⟨_, rfl, kind⟩⟩

end Sys2Proof.Machine
end

section
/-! Retirements, records, gates, reads, engines and units keep what may be in flight in each lane state (R116, R131). -/

namespace Sys2Proof.Machine

open Sys2Proof

/-! ## What the lanes and the engines do not see -/

theorem State.Shapely.put {s : State} (sh : s.Shapely) (w : LinkWrite) : (s.put w).Shapely := sh

theorem State.Shapely.freeCues {s : State} (sh : s.Shapely) (n : Nat) : (s.freeCues n).Shapely := sh

theorem State.Shapely.freeClips {s : State} (sh : s.Shapely) (n : Nat) : (s.freeClips n).Shapely := sh

/-! ## Retirement and halts -/

section
variable {s : State} {i : LaneId} (sh : s.Shapely)
include sh

theorem State.Shapely.retire (deferred : (s.lane i).deferred = none) (free : s.ownsEngine i = false) (o : RecOutcome)
    (why : Reason) : (s.retire i o why).Shapely := by
  cases cur : (s.lane i).cur with
  | none => rwa [State.retire, cur]
  | some c =>
    rw [State.retire_eq o why cur]
    exact sh.setLane (Lane.Bare.fits ⟨⟨deferred, rfl, free⟩, (s.lane i).workEnded_block⟩ (.inl rfl))

theorem State.Shapely.retireDone (deferred : (s.lane i).deferred = none) (free : s.ownsEngine i = false) :
    (s.retireDone i).Shapely := by
  unfold State.retireDone
  split
  · exact sh
  · exact sh.retire deferred free _ _

theorem State.Shapely.retireOwed (deferred : (s.lane i).deferred = none) (free : s.ownsEngine i = false) (c : Record)
    (o : Owed) : (s.retireOwed i c o).Shapely := by
  rw [State.retireOwed_eq]
  exact sh.setLane (Lane.Bare.fits ⟨⟨deferred, rfl, free⟩, (s.lane i).workEnded_block⟩ (.inl rfl))

theorem State.Shapely.retireSkipped (deferred : (s.lane i).deferred = none) (free : s.ownsEngine i = false)
    (c : Record) : (s.retireSkipped i c).Shapely := by
  rw [State.retireSkipped_eq]
  exact sh.setLane (Lane.Bare.fits ⟨⟨deferred, rfl, free⟩, (s.lane i).workEnded_block⟩ (.inl rfl))

theorem State.Shapely.failRecord (deferred : (s.lane i).deferred = none) (free : s.ownsEngine i = false)
    (why : Reason) : (s.failRecord i why).Shapely := by
  unfold State.failRecord
  split
  · exact sh
  · split
    · rw [State.failOwed_eq, State.startSeq_setLane]
      refine State.Shapely.runSeq (sh.setLane ?_) i
      exact Lane.Bare.fits ⟨⟨deferred, rfl, free⟩, (s.lane i).workEnded_block⟩ (.inl rfl)
    · exact sh.retire deferred free _ _

theorem State.Shapely.entryHalt (bare : (s.lane i).Bare (s.ownsEngine i)) (why : Reason) (start : Addr) :
    (s.entryHalt i why start).Shapely := by
  unfold State.entryHalt
  dsimp only
  rw [State.modLane_eq, State.startSeq_setLane]
  refine State.Shapely.runSeq (sh.setLane ?_) i
  exact Lane.Bare.fits ⟨⟨bare.deferred, bare.poll, bare.free⟩, bare.block⟩ (.inl rfl)

theorem State.Shapely.skipNow (bare : (s.lane i).Bare (s.ownsEngine i)) : (s.skipNow i).Shapely := by
  unfold State.skipNow
  split
  · exact sh
  · split
    · exact sh.startRead bare (by decide)
    · exact sh.retireSkipped bare.deferred bare.free _

theorem State.Shapely.enqueue (calm : (s.lane i).Calm (s.ownsEngine i)) : (s.enqueue i).Shapely :=
  sh.modLane (Lane.Calm.fits ⟨calm.deferred, calm.poll, calm.free⟩ (fun _ _ _ => .inr (.inl rfl)) trivial)

theorem State.Shapely.nextIntake (calm : (s.lane i).Calm (s.ownsEngine i)) : (s.nextIntake i).Shapely := by
  unfold State.nextIntake
  split
  · exact sh.failRecord calm.deferred calm.free _
  · have fit := sh.fits i
    refine (sh.modLane ⟨fit.transfer, fit.poll, fit.block, fit.deferred, fit.engine⟩).startIntake ?_
    rw [State.lane_modLane_same]
    exact ⟨calm.deferred, calm.poll, calm.free⟩

theorem State.Shapely.prefetch (i : LaneId) : (s.prefetch i).Shapely := by
  unfold State.prefetch
  split
  · exact sh
  · split
    next may =>
      have fit := sh.fits i
      refine sh.modLane ⟨fit.transfer, fit.poll, fun _ _ _ => ?_, fit.deferred, fit.engine⟩
      simp only [Lane.mayPrefetch, Lane.prefetching, Bool.and_eq_true, Bool.or_eq_true, decide_eq_true_iff,
        or_assoc] at may
      exact may.1.1.1.1.1
    · exact sh

theorem State.Shapely.judgeHead (i : LaneId) : (s.judgeHead i).Shapely := by
  unfold State.judgeHead
  split
  next waits =>
    have calm := (sh.fits i).calm_of_waiting (.inl waits.1)
    split
    · exact sh.enqueue calm
    · exact sh.failRecord calm.deferred calm.free _
    · exact sh
  · exact sh

end

/-! ## Records -/

section
variable {s : State} {i : LaneId} (sh : s.Shapely) (steady : (s.lane i).Steady)
  (bare : (s.lane i).Bare (s.ownsEngine i))
include sh steady bare

theorem State.Shapely.execOpen (c : Record) : (s.execOpen i c).Shapely := by
  unfold State.execOpen
  split
  · exact sh.failRecord bare.deferred bare.free _
  next k p accepted =>
    have opened := sh.modLane (f := fun l => (l.opened k p).withEx fun _ => ExecState.zero)
      ((sh.fits i).track steady rfl rfl rfl rfl rfl rfl)
    refine ((opened.freeCues _).freeClips _).retire ?_ bare.free _ _
    rw [State.lane_freeClips, State.lane_freeCues, State.lane_modLane_same]
    exact bare.deferred

theorem State.Shapely.execClose : (s.execClose i).Shapely := by
  unfold State.execClose
  have closed := sh.setLane (i := i) (l := ((s.lane i).closed.withEx (fun x => { x with
      progress := (s.lane i).store.length + (s.lane i).table.length })).credit
        (List.replicate ((s.lane i).store.length + (s.lane i).table.length) NoteKind.leftover))
    ((sh.fits i).track steady rfl rfl rfl rfl rfl rfl)
  dsimp only
  split
  · have freed := (closed.freeCues (s.lane i).store.length).freeClips (s.lane i).table.length
    have fit := freed.fits i
    refine (freed.modLane ?_).retire ?_ bare.free _ _
    · exact ⟨fit.transfer, fit.poll, fit.block, fit.deferred, fit.engine⟩
    rw [State.lane_modLane_same, State.lane_freeClips, State.lane_freeCues, State.lane_setLane_same]
    exact bare.deferred
  · refine ((closed.freeCues _).freeClips _).retireDone ?_ bare.free
    rw [State.lane_freeClips, State.lane_freeCues, State.lane_setLane_same]
    exact bare.deferred

omit steady in
theorem State.Shapely.execEmit (c : Record) : (s.execEmit i c).Shapely := by
  unfold State.execEmit
  dsimp only
  split
  · exact sh.failRecord bare.deferred bare.free _
  · split
    · exact sh.retireDone bare.deferred bare.free
    next k through =>
      have fit := sh.fits i
      have placed := sh.modLane (i := i) (f := fun l => l.withEx fun x => { x with through := k })
        ⟨fit.transfer, fit.poll, fit.block, fit.deferred, fit.engine⟩
      have deferred : ((s.modLane i fun l => l.withEx fun x => { x with through := k }).lane i).deferred = none := by
        rw [State.lane_modLane_same]
        exact bare.deferred
      split
      · exact placed.retireDone deferred bare.free
      · split
        · exact placed.failRecord deferred bare.free _
        · refine placed.enqueue ⟨deferred, ?_, bare.free⟩
          rw [State.lane_modLane_same]
          exact bare.poll

omit steady in
theorem State.Shapely.execMix (c : Record) : (s.execMix i c).Shapely := by
  unfold State.execMix
  dsimp only
  split
  · exact sh.failRecord bare.deferred bare.free _
  · split
    · exact sh.retireDone bare.deferred bare.free
    · refine State.Shapely.prefetch (sh.modLane ?_) i
      exact Lane.Bare.fits ⟨⟨bare.deferred, bare.poll, bare.free⟩, bare.block⟩ trivial

omit steady in
theorem State.Shapely.execStop (c : Record) : (s.execStop i c).Shapely := by
  unfold State.execStop
  dsimp only
  split
  · rw [State.modLane_eq, State.modLane_eq, State.startRead_eq]
    simp only [State.lane_setLane_same, State.setLane_setLane]
    exact sh.setLane (Lane.Bare.fits ⟨⟨bare.deferred, bare.poll, bare.free⟩, bare.block⟩ (.inl rfl))
  · rw [State.modLane_eq, State.startSeq_setLane]
    refine State.Shapely.runSeq (sh.setLane ?_) i
    exact Lane.Bare.fits ⟨⟨bare.deferred, bare.poll, bare.free⟩, bare.block⟩ (.inl rfl)

/-- R159: the current record is carried out by a bare lane. -/
theorem State.Shapely.execute : (s.execute i).Shapely := by
  have fails (why : Reason) := sh.failRecord bare.deferred bare.free why
  have done := sh.retireDone bare.deferred bare.free
  unfold State.execute
  split
  · exact sh
  next c cur =>
    split
    · exact sh.retireOwed bare.deferred bare.free _ _
    · split
      · exact sh.execOpen steady bare _
      · exact sh.execClose steady bare
      · unfold State.execCues
        dsimp only
        split
        · exact fails _
        · split
          · exact done
          · exact sh.nextIntake bare.toCalm
      · unfold State.execCue
        split
        · exact done
        · split
          · exact sh.enqueue bare.toCalm
          · exact fails _
      · exact sh.execEmit bare _
      · unfold State.execClip
        split
        · exact done
        · split
          · exact fails _
          · exact sh.enqueue bare.toCalm
      · exact sh.execMix bare _
      · have fit := sh.fits i
        refine (sh.modLane (i := i) (f := fun l => l.withEx fun _ => ExecState.zero)
          ⟨fit.transfer, fit.poll, fit.block, fit.deferred, fit.engine⟩).retire ?_ bare.free _ _
        rw [State.lane_modLane_same]
        exact bare.deferred
      · unfold State.execLink
        dsimp only
        split
        · exact fails _
        · exact sh.startSeq
            (Lane.Bare.fits ⟨⟨bare.deferred, bare.poll, bare.free⟩, bare.block⟩ (.inl rfl))
      · exact sh.execStop bare _
      · exact sh

theorem State.Shapely.recordFetched : (s.recordFetched i).Shapely := by
  unfold State.recordFetched
  split
  · exact sh
  next c cur =>
    split
    · unfold State.startGate
      split
      · exact sh.modLane ⟨trivial, fun _ => .inl rfl, fun off k live => absurd live (bare.block off k),
          fun some => by simp [bare.deferred] at some, fun owned => absurd (bare.free.symm.trans owned) (by decide)⟩
      · exact sh.failRecord bare.deferred bare.free _
    · exact sh.execute steady bare

end

/-! ## Gates (R100, R101) -/

section
variable {s : State} (sh : s.Shapely) (i : LaneId)
include sh

/-- A poll that has been issued belongs to a gated lane, unless the lane is abandoned. -/
theorem State.Shapely.gated (poll : (s.lane i).gate.poll ≠ .none) (ab : (s.lane i).state ≠ .abandoning) :
    (s.lane i).state = .gated := ((sh.fits i).poll poll).resolve_right fun h => ab h.1

theorem State.Shapely.endPoll_none : (s.endPoll i .none).Shapely :=
  have fit := sh.fits i
  sh.modLane ⟨fit.transfer, fun poll => absurd rfl poll, fit.block, fit.deferred, fit.engine⟩

theorem State.Shapely.endPoll {i : LaneId} (gated : (s.lane i).state = .gated) (p : PollState) :
    (s.endPoll i p).Shapely :=
  have fit := sh.fits i
  sh.modLane ⟨fit.transfer, fun _ => .inl gated, fit.block, fit.deferred, fit.engine⟩

theorem State.Shapely.endStalePoll : (s.endStalePoll i).Shapely := by
  have fit := sh.fits i
  refine sh.modLane ⟨fit.transfer, ?_, fit.block, fit.deferred, fit.engine⟩
  unfold Lane.PollFits
  dsimp only
  split
  next due =>
    refine fun _ => .inl (((fit.poll (by rw [due.1]; decide)).resolve_right fun h => ?_))
    rw [due.1] at h
    cases h.2
  · exact fit.poll

theorem State.Shapely.openGate {i : LaneId} (gated : (s.lane i).state = .gated) : (s.openGate i).Shapely := by
  have fit := sh.fits i
  have free := fit.not_owned (by rw [gated]; decide) (by rw [gated]; decide)
  have steady := fit.steady (.inl (by rw [gated]; decide))
  refine State.Shapely.execute
    (sh.modLane ⟨fit.transfer, fun poll => absurd rfl poll, fit.block, fit.deferred, fit.engine⟩) ?_ ?_
  · rwa [State.lane_modLane_same]
  · rw [State.lane_modLane_same]
    refine ⟨⟨fit.deferred_none ?_ ?_ ?_ ?_, rfl, free⟩, fit.no_live ?_ ?_ ?_⟩ <;> rw [gated] <;> decide

theorem State.Shapely.failGated {i : LaneId} (gated : (s.lane i).state = .gated) (why : Reason) :
    (s.failRecord i why).Shapely := by
  refine sh.failRecord ((sh.fits i).deferred_none ?_ ?_ ?_ ?_) ((sh.fits i).not_owned ?_ ?_) _ <;>
    rw [gated] <;> decide

theorem State.Shapely.pollDone (word : BitVec 32) : (s.pollDone i word).Shapely := by
  unfold State.pollDone
  split
  next poll =>
    split
    · exact sh.endPoll_none i
    next ab =>
      have gated := sh.gated i (by rw [poll]; decide) ab
      split
      · exact sh.openGate gated
      · exact sh.endPoll gated _
  · split
    · exact sh.endStalePoll i
    · exact sh

theorem State.Shapely.pollFailed : (s.pollFailed i).Shapely := by
  unfold State.pollFailed
  split
  next poll =>
    split
    · exact sh.endPoll_none i
    next ab =>
      have gated := sh.gated i (by rw [poll]; decide) ab
      refine (sh.endPoll_none i).failGated ?_ _
      rw [State.endPoll, State.lane_modLane_same]
      exact gated
  · split
    · exact sh.endStalePoll i
    · exact sh

end

/-! ## Reads (R95, R96, R153) -/

section
variable {s : State} {i : LaneId} (sh : s.Shapely)
include sh

/-- The state of a lane whose read is in flight, unless it is abandoned. -/
theorem State.Shapely.reading {r : LaneRead} {issued : Bool} (io : (s.lane i).io = .read r issued)
    (ab : (s.lane i).state ≠ .abandoning) : (s.lane i).state = r.home :=
  ((Lane.transferFits_read io).mp (sh.fits i).transfer).resolve_right fun h => ab h.1

theorem State.Shapely.dropRead {r : LaneRead} {issued : Bool} (io : (s.lane i).io = .read r issued) :
    (s.dropRead i).Shapely := by
  have fit := sh.fits i
  refine sh.modLane ⟨trivial, fit.poll, fit.block, fun some => ?_, fit.engine⟩
  obtain ⟨slot, ⟨-, idle⟩ | ⟨q, seq, -⟩⟩ := fit.deferred some
  · rw [io] at idle
    cases idle
  · rw [io] at seq
    cases seq

theorem State.Shapely.bare (fetching : (s.lane i).state = .fetching) : (s.lane i).Bare (s.ownsEngine i) :=
  (sh.fits i).bare (.inr (.inl fetching))

theorem State.Shapely.steady (fetching : (s.lane i).state = .fetching) : (s.lane i).Steady :=
  (sh.fits i).steady (.inl (by rw [fetching]; decide))

end

/-- A lane in FETCHING, in a state that is shapely. -/
structure State.Fetching (s : State) (i : LaneId) : Prop where
  shapely : s.Shapely
  state : (s.lane i).state = .fetching

section
variable {s : State} {i : LaneId} (ready : s.Fetching i)
include ready

theorem State.Fetching.retire (o : RecOutcome) (why : Reason) : (s.retire i o why).Shapely :=
  ready.shapely.retire (ready.shapely.bare ready.state).deferred (ready.shapely.bare ready.state).free o why

theorem State.Fetching.failRecord (why : Reason) : (s.failRecord i why).Shapely :=
  ready.shapely.failRecord (ready.shapely.bare ready.state).deferred (ready.shapely.bare ready.state).free why

theorem State.Fetching.recordFetched : (s.recordFetched i).Shapely :=
  ready.shapely.recordFetched (ready.shapely.steady ready.state) (ready.shapely.bare ready.state)

theorem State.Fetching.startRead {r : LaneRead} (own : r ≠ .intake) : (s.startRead i .fetching r).Shapely :=
  ready.shapely.startRead (ready.shapely.bare ready.state) own

/-- The record that a lane holds plays no part in what may be in flight. -/
theorem State.Fetching.hold (c : Lane → Option Record) :
    (s.modLane i fun l => { l with cur := c l }).Fetching i :=
  have fit := ready.shapely.fits i
  ⟨ready.shapely.modLane ⟨fit.transfer, fit.poll, fit.block, fit.deferred, fit.engine⟩,
    by rw [State.lane_modLane_same]; exact ready.state⟩

theorem State.Fetching.failHeader (h : Header) (why : Reason) : (s.failHeader i h why).Shapely :=
  (ready.hold _).retire _ _

theorem State.Fetching.judgeHeader (h : Header) : (s.judgeHeader i h).Shapely := by
  have compared := ready.hold fun l => l.cur.map fun c => c.compared h
  unfold State.judgeHeader
  dsimp only
  split
  next o owed =>
    split
    · have fetching := compared.hold fun _ =>
        some (((s.modLane i fun l => { l with cur := l.cur.map fun c => c.compared h }).lane i).fetched h [])
      rw [State.failOwed_eq, State.startSeq_setLane]
      refine State.Shapely.runSeq (fetching.shapely.setLane ?_) i
      have bare := fetching.shapely.bare fetching.state
      exact Lane.Bare.fits ⟨⟨bare.deferred, rfl, bare.free⟩, Lane.workEnded_block _⟩ (.inl rfl)
    · split
      · exact (compared.hold _).recordFetched
      · exact compared.startRead nofun
  · split
    · exact compared.failHeader _ _
    · split
      · exact compared.failHeader _ _
      · split
        · exact (compared.hold _).recordFetched
        · exact compared.startRead nofun

theorem State.Fetching.skipHeader (h : Header) : (s.skipHeader i h).Shapely := by
  unfold State.skipHeader
  split
  · exact ready.shapely
  next c cur =>
    have held := ready.hold fun _ => some { c with hdr := some { h with kind := none } }
    have bare := held.shapely.bare held.state
    exact held.shapely.retireSkipped bare.deferred bare.free _

end

section
variable {s : State} (sh : s.Shapely) (i : LaneId)
include sh

theorem State.Shapely.entryRead (start : Addr) : (s.entryRead i start).Shapely := by
  unfold State.entryRead
  split
  next io =>
    split
    · exact sh.dropRead io
    next ab =>
      have bare := sh.bare (sh.reading io ab)
      split
      · exact sh.entryHalt bare _ _
      · rw [State.modLane_eq, State.startRead_eq]
        simp only [State.lane_setLane_same, State.setLane_setLane]
        exact sh.setLane (Lane.Bare.fits ⟨⟨bare.deferred, bare.poll, bare.free⟩, bare.block⟩ (.inl rfl))
  · exact sh

theorem State.Shapely.entryFailed : (s.entryFailed i).Shapely := by
  unfold State.entryFailed
  split
  next io =>
    split
    · exact sh.dropRead io
    next ab => exact sh.entryHalt (sh.bare (sh.reading io ab)) _ _
  · exact sh

theorem State.Shapely.headerRead (bits : BitVec 128) : (s.headerRead i bits).Shapely := by
  unfold State.headerRead
  split
  next io =>
    split
    · exact sh.dropRead io
    next ab => exact State.Fetching.judgeHeader ⟨sh, sh.reading io ab⟩ _
  · split
    next io =>
      split
      · exact sh.dropRead io
      next ab => exact State.Fetching.skipHeader ⟨sh, sh.reading io ab⟩ _
    · exact sh

theorem State.Shapely.bodyRead (bytes : List Byte) : (s.bodyRead i bytes).Shapely := by
  unfold State.bodyRead
  split
  next h io =>
    split
    · split
      · exact sh.dropRead io
      next ab => exact (State.Fetching.hold ⟨sh, sh.reading io ab⟩ _).recordFetched
    · exact sh
  · exact sh

theorem State.Shapely.fetchFailed : (s.fetchFailed i).Shapely := by
  unfold State.fetchFailed
  split
  next io =>
    split
    · exact sh.dropRead io
    next ab => exact (State.Fetching.hold ⟨sh, sh.reading io ab⟩ _).failRecord _
  next io =>
    split
    · exact sh.dropRead io
    next ab => exact (State.Fetching.hold ⟨sh, sh.reading io ab⟩ _).failRecord _
  · exact sh

/-- An intake read fails, or its first cue overruns. -/
theorem State.Shapely.dropAndFail {i : LaneId} {issued : Bool} (io : (s.lane i).io = .read .intake issued)
    (ab : (s.lane i).state ≠ .abandoning) (why : Reason) : ((s.dropRead i).failRecord i why).Shapely := by
  have dropped := sh.dropRead io
  have waits : ((s.dropRead i).lane i).state = .waitData := by
    rw [State.dropRead, State.lane_modLane_same]
    exact sh.reading io ab
  have calm := (dropped.fits i).calm_of_waiting (.inl waits)
  exact dropped.failRecord calm.deferred calm.free _

theorem State.Shapely.intakeDone (chunks : List RawCue) : (s.intakeDone i chunks).Shapely := by
  unfold State.intakeDone
  dsimp only
  split
  next io =>
    split
    · exact sh
    · split
      · exact sh
      · split
        · exact sh.dropRead io
        next ab =>
          split
          · exact sh.dropAndFail io ab _
          · have calm := (sh.fits i).calm_of_waiting (.inl (sh.reading io ab))
            exact sh.modLane (Lane.Calm.fits ⟨calm.deferred, calm.poll, calm.free⟩ (fun _ _ _ => .inr (.inl rfl)) trivial)
  · exact sh

theorem State.Shapely.intakeFailed : (s.intakeFailed i).Shapely := by
  unfold State.intakeFailed
  split
  next io =>
    split
    · exact sh.dropRead io
    next ab => exact sh.dropAndFail io ab _
  · exact sh

end

/-! ## Programme blocks (R82 to R87) -/

/-- A block read has ended. -/
theorem Lane.Fits.endBlock {l : Lane} {o : Bool} (fit : l.Fits o) {p : Prefetch} (ended : p.outstanding = .none) :
    ({ l with pf := p } : Lane).Fits o :=
  ⟨fit.transfer, fit.poll, fun off k live => by simp [ended] at live, fit.deferred, fit.engine⟩

section
variable {s : State} (sh : s.Shapely) (i : LaneId)
include sh

theorem State.Shapely.blockRead (bytes : List Byte) : (s.blockRead i bytes).Shapely := by
  unfold State.blockRead
  split
  · split
    · exact ((sh.setLane ((sh.fits i).endBlock rfl)).judgeHead i).prefetch i
    · exact sh
  · exact sh
  · exact sh

theorem State.Shapely.blockFailed : (s.blockFailed i).Shapely := by
  unfold State.blockFailed
  split
  · exact (sh.setLane ((sh.fits i).endBlock rfl)).judgeHead i
  · exact sh
  · exact sh

theorem State.Shapely.staleEnded : (s.staleEnded i).Shapely := by
  unfold State.staleEnded
  split
  · exact (sh.setLane ((sh.fits i).endBlock rfl)).prefetch i
  · exact sh

end

end Sys2Proof.Machine
end

section
/-! Engines and units keep what may be in flight in each lane state, and no lane ever holds two engines (R116, R131,
R134). -/

namespace Sys2Proof.Machine

open Sys2Proof

/-! ## Engines given up -/

theorem State.ownsEngine_iff (s : State) (i : LaneId) :
    s.ownsEngine i = true ↔ s.timing.owner = some i ∨ ∃ e : MixId, (s.mixEng e).owner = some i := by
  simp only [State.ownsEngine, Bool.or_eq_true, decide_eq_true_iff, or_assoc, Fin.exists_fin_two]

/-- No lane holds two engines, for either Mix Engine. -/
theorem State.EnginesApart.mix {s : State} (apart : s.EnginesApart) {i : LaneId} {e f : MixId}
    (own : (s.mixEng e).owner = some i) (other : f ≠ e) : (s.mixEng f).owner ≠ some i := by
  intro own'
  fin_cases e <;> fin_cases f
  · exact other rfl
  · exact apart.2 i own own'
  · exact apart.2 i own' own
  · exact other rfl

/-- Engines go on as they are or are given up, and nothing changes in any lane. -/
theorem State.Shapely.yield {s t : State} (sh : s.Shapely) (lanes : ∀ j, t.lane j = s.lane j)
    (timing : ∀ i, t.timing.owner = some i → s.timing.owner = some i)
    (mix : ∀ (e : MixId) (i : LaneId), (t.mixEng e).owner = some i → (s.mixEng e).owner = some i) : t.Shapely := by
  obtain ⟨apart, fits⟩ := s.shapely_iff.mp sh
  refine t.shapely_iff.mpr ⟨⟨fun i own => ?_, fun i own own' => apart.2 i (mix 0 i own) (mix 1 i own')⟩, fun j => ?_⟩
  · obtain ⟨not, not'⟩ := apart.1 i (timing i own)
    exact ⟨fun own' => not (mix 0 i own'), fun own' => not' (mix 1 i own')⟩
  · rw [lanes]
    refine (fits j).release fun own => (s.ownsEngine_iff j).mpr ?_
    exact ((t.ownsEngine_iff j).mp own).imp (timing j) fun ⟨e, own⟩ => ⟨e, mix e j own⟩

theorem State.Shapely.setMix {s : State} (sh : s.Shapely) (e : MixId) {m : MixEngine}
    (owner : ∀ i, m.owner = some i → (s.mixEng e).owner = some i) : (s.setMix e m).Shapely := by
  refine sh.yield (fun _ => rfl) (fun _ => id) fun f i own => ?_
  rw [State.mixEng_setMix] at own
  split at own
  next h => exact h ▸ owner i own
  · exact own

/-- The Timing Engine goes on with its unit. -/
theorem State.Shapely.timing {s : State} (sh : s.Shapely) {u : TimingEngine} (owner : u.owner = s.timing.owner) :
    ({ s with timing := u } : State).Shapely :=
  sh.yield (fun _ => rfl) (fun _ own => owner ▸ own) fun _ _ => id

/-- Lane i has just given its engine up, WORKING or abandoned. -/
structure State.Released (s : State) (i : LaneId) : Prop where
  shapely : s.Shapely
  free : s.ownsEngine i = false
  state : (s.lane i).state = .working ∨ (s.lane i).state = .abandoning
  steady : (s.lane i).Steady

theorem State.Shapely.released {s t : State} {i : LaneId} (sh : s.Shapely) (own : s.ownsEngine i = true)
    (sh' : t.Shapely) (lane : t.lane i = s.lane i) (free : t.ownsEngine i = false) : t.Released i :=
  ⟨sh', free, lane ▸ (sh.fits i).engine own, lane ▸ (sh.fits i).steady (.inr own)⟩

theorem State.Shapely.releaseTiming {s : State} {i : LaneId} (sh : s.Shapely) (own : s.timing.owner = some i) :
    s.releaseTiming.Released i := by
  refine sh.released ((s.ownsEngine_iff i).mpr (.inl own)) (sh.yield (fun _ => rfl) nofun fun _ _ => id) rfl ?_
  refine Bool.eq_false_iff.mpr fun own' => ?_
  obtain none | ⟨e, own'⟩ := (State.ownsEngine_iff _ _).mp own'
  · cases none
  · obtain ⟨not, not'⟩ := sh.1.1 i own
    fin_cases e
    · exact not own'
    · exact not' own'

theorem State.Shapely.releaseMix {s : State} {i : LaneId} {e : MixId} (sh : s.Shapely)
    (own : (s.mixEng e).owner = some i) : (s.releaseMix e).Released i := by
  refine sh.released ((s.ownsEngine_iff i).mpr (.inr ⟨e, own⟩)) (sh.setMix e nofun) rfl ?_
  refine Bool.eq_false_iff.mpr fun own' => ?_
  obtain timing | ⟨f, own'⟩ := (State.ownsEngine_iff _ _).mp own'
  · obtain ⟨not, not'⟩ := sh.1.1 i timing
    fin_cases e
    · exact not own
    · exact not' own
  · by_cases same : f = e
    · rw [same, State.mixEng_releaseMix_same] at own'
      cases own'
    · rw [State.mixEng_releaseMix_ne s same] at own'
      exact sh.1.mix own same own'

section
variable {s : State} {i : LaneId} (released : s.Released i)
include released

/-- The changes of the unit are made. -/
theorem State.Released.setLane (l : Lane) (state : l.state = (s.lane i).state) (io : l.io = (s.lane i).io)
    (poll : l.gate.poll = (s.lane i).gate.poll) (block : l.pf.outstanding = (s.lane i).pf.outstanding)
    (deferred : l.deferred = (s.lane i).deferred) (slot : l.slot = (s.lane i).slot) : (s.setLane i l).Released i := by
  refine ⟨released.shapely.setLane ((released.shapely.fits i).track released.steady state io poll block deferred slot),
    released.free, ?_, ?_⟩
  · rw [State.lane_setLane_same, state]
    exact released.state
  · rw [State.lane_setLane_same]
    unfold Lane.Steady
    rw [io]
    exact released.steady

/-- The free counts of the pools play no part. -/
theorem State.Released.pools (cues clips : Nat) : ({ s with cueFree := cues, clipFree := clips } : State).Released i :=
  ⟨released.shapely, released.free, released.state, released.steady⟩

theorem State.Released.freeCues (n : Nat) : (s.freeCues n).Released i :=
  ⟨released.shapely.freeCues n, released.free, released.state, released.steady⟩

theorem State.Released.freeClips (n : Nat) : (s.freeClips n).Released i :=
  ⟨released.shapely.freeClips n, released.free, released.state, released.steady⟩

/-- A lane that has given its engine up is calm, unless it is abandoned. -/
theorem State.Released.calm (ab : (s.lane i).state ≠ .abandoning) : (s.lane i).Calm (s.ownsEngine i) :=
  (released.shapely.fits i).calm (.inr (.inr (released.state.resolve_right ab))) released.free

theorem State.Released.retire (ab : (s.lane i).state ≠ .abandoning) (o : RecOutcome) (why : Reason) :
    (s.retire i o why).Shapely := released.shapely.retire (released.calm ab).deferred released.free o why

theorem State.Released.retireDone (ab : (s.lane i).state ≠ .abandoning) : (s.retireDone i).Shapely :=
  released.shapely.retireDone (released.calm ab).deferred released.free

/-- R59, R93: a unit fails. -/
theorem State.Released.fails (why : Reason) :
    (if (s.lane i).state = .abandoning then s else s.failRecord i why).Shapely :=
  iteInduction (fun _ => released.shapely) fun ab =>
    released.shapely.failRecord (released.calm ab).deferred released.free why

/-! ## The ends of units (R29, R55, R69, R92) -/

theorem State.Released.afterCueUnit (ab : (s.lane i).state ≠ .abandoning) (w : CueWork) :
    (s.afterCueUnit i w).Shapely := by
  unfold State.afterCueUnit
  dsimp only
  split
  · exact released.shapely
  · repeat' split
    · exact released.retire ab _ _
    · exact released.retire ab _ _
    · exact released.retire ab _ _
    · exact released.retireDone ab
    · exact released.shapely.nextIntake (released.calm ab)

theorem State.Released.afterClipUnit (notes : List NoteKind) : (s.afterClipUnit i notes).Shapely := by
  unfold State.afterClipUnit
  split
  · exact released.shapely
  next ab =>
    split
    · exact released.retire ab _ _
    · exact released.retireDone ab

theorem State.Released.afterSegment (notes : List NoteKind) : (s.afterSegment i notes).Shapely := by
  unfold State.afterSegment
  dsimp only
  split
  · exact released.shapely
  · split
    · exact released.shapely
    next ab =>
      repeat' split
      · exact released.retire ab _ _
      · exact released.retireDone ab
      · exact released.shapely.enqueue (released.calm ab)

theorem State.Released.afterBlock (f : Nat) (notes : List NoteKind) : (s.afterBlock i f notes).Shapely := by
  unfold State.afterBlock
  dsimp only
  split
  · exact released.shapely
  · split
    · exact released.shapely
    next ab =>
      repeat' split
      · exact released.retire ab _ _
      · exact released.retireDone ab
      · have calm := released.calm ab
        refine State.Shapely.prefetch (State.Shapely.judgeHead (released.shapely.modLane ?_) i) i
        exact Lane.Calm.fits ⟨calm.deferred, calm.poll, calm.free⟩ (fun _ _ _ => .inl rfl) trivial

end

/-! ## The Timing Engine -/

theorem State.owner_of_unitOwner {s : State} {u : TimingUnit} {i : LaneId} (h : s.unitOwner u = some i) :
    s.timing.owner = some i := by
  unfold State.unitOwner at h
  split at h
  · exact h
  · cases h

section
variable {s : State} (sh : s.Shapely)
include sh

theorem State.Shapely.cueUnitEnds : s.cueUnitEnds.Shapely := by
  unfold State.cueUnitEnds
  split
  · exact sh
  next i own =>
    split
    · exact sh
    next c cur =>
      have released := (sh.releaseTiming (State.owner_of_unitOwner own)).setLane
        ((s.lane i).afterCues (cueUnit (s.lane i) c.ex s.cueFree ((s.lane i).batch c))) rfl rfl rfl rfl rfl rfl
      dsimp only
      split
      · exact released.shapely
      next ab =>
        refine (released.pools _ _).afterCueUnit ?_ _
        exact (State.lane_setLane_same _ _ _).symm ▸ ab

theorem State.Shapely.clipUnitEnds : s.clipUnitEnds.Shapely := by
  unfold State.clipUnitEnds
  split
  · exact sh
  next i own =>
    have released := sh.releaseTiming (State.owner_of_unitOwner own)
    split
    · exact sh
    · dsimp only
      split
      · exact (released.setLane ((s.lane i).afterClip _ _) rfl rfl rfl rfl rfl rfl).afterClipUnit _
      · split
        · exact released.shapely
        next ab => exact released.retire ab _ _
      next e notes inserted =>
        have work := released.setLane ((s.lane i).afterClip (insertClip e (s.lane i).table) notes)
          rfl rfl rfl rfl rfl rfl
        exact (work.pools _ _).afterClipUnit _

theorem State.Shapely.segmentDone {i : LaneId} (own : s.timing.owner = some i) (diff : Option Nat) :
    (s.segmentDone i diff).Shapely :=
  (((sh.releaseTiming own).setLane ((s.lane i).completeSegment _ diff) rfl rfl rfl rfl rfl rfl).freeCues _).afterSegment _

theorem State.Shapely.timingUnitFails {i : LaneId} (own : s.timing.owner = some i) : (s.timingUnitFails i).Shapely :=
  (sh.releaseTiming own).fails _

theorem State.Shapely.segmentWritten : s.segmentWritten.Shapely := by
  unfold State.segmentWritten
  split
  · exact sh
  next i own =>
    split
    · exact sh
    · exact (sh.put _).segmentDone (State.owner_of_unitOwner own) _

theorem State.Shapely.segmentRefused : s.segmentRefused.Shapely := by
  unfold State.segmentRefused
  split
  · exact sh
  next i own =>
    split
    · exact sh
    · exact (sh.put _).timingUnitFails (State.owner_of_unitOwner own)

theorem State.Shapely.segmentCompared (bytes : List Byte) : (s.segmentCompared bytes).Shapely := by
  unfold State.segmentCompared
  split
  · exact sh
  next i own => exact iteInduction (fun _ => sh.segmentDone (State.owner_of_unitOwner own) _) fun _ => sh

theorem State.Shapely.compareFailed : s.compareFailed.Shapely := by
  unfold State.compareFailed
  split
  · exact sh
  next i own => exact sh.timingUnitFails (State.owner_of_unitOwner own)

/-! ## The Mix Engines -/

theorem State.Shapely.mixFails {e : MixId} {i : LaneId} (own : (s.mixEng e).owner = some i) :
    (s.mixFails e i).Shapely := (sh.releaseMix own).fails _

theorem State.Shapely.clipsFailed (e : MixId) : (s.clipsFailed e).Shapely := by
  unfold State.clipsFailed
  split
  · exact sh
  next i own => exact iteInduction (fun _ => sh.mixFails own) fun _ => sh

theorem State.Shapely.blockRefused (e : MixId) : (s.blockRefused e).Shapely := by
  unfold State.blockRefused
  dsimp only
  split
  · exact sh
  next i own =>
    split
    · exact iteInduction (fun _ => (sh.put _).mixFails own) fun _ => sh
    all_goals exact sh

theorem State.Shapely.blockWritten (e : MixId) : (s.blockWritten e).Shapely := by
  unfold State.blockWritten
  dsimp only
  split
  · exact sh
  next i own =>
    split
    next off k samples b head body =>
      refine iteInduction (fun _ => ?_) fun _ => sh
      have written := (sh.put (.accepted (outputAddr (s.lane i) b off) (mixedBytes (s.mixEng e).acc))).releaseMix
        (e := e) (i := i) own
      have done := written.setLane ((s.lane i).completeBlock k (clippedNotes (s.mixEng e).acc)) rfl rfl rfl rfl rfl rfl
      exact (done.freeClips ((s.lane i).freedByBlock k)).afterBlock b.frames (clippedNotes (s.mixEng e).acc)
    all_goals exact sh

theorem State.Shapely.computeBlock (e : MixId) (l : Lane) (off k : Nat) (samples : List (BitVec 16))
    (runs : List (List (BitVec 16))) : (s.computeBlock e l off k samples runs).Shapely := sh.setMix e fun _ => id

theorem State.Shapely.clipsRead (e : MixId) (runs : List (List Byte)) : (s.clipsRead e runs).Shapely := by
  unfold State.clipsRead
  dsimp only
  split
  · exact sh
  · split
    · exact sh
    · exact iteInduction (fun _ => sh.computeBlock _ _ _ _ _ _) fun _ => sh

/-! ## Grants (R132, R133) -/

/-- A queued lane is granted an engine, and no other engine changes hands. -/
theorem State.Shapely.grant {t : State} {i : LaneId} (queued : (s.lane i).state = .queued)
    (lane : t.lane i = { s.lane i with state := .working }) (others : ∀ j, j ≠ i → t.lane j = s.lane j)
    (apart : t.EnginesApart) (owns : ∀ j, j ≠ i → t.ownsEngine j = s.ownsEngine j) : t.Shapely := by
  refine t.shapely_iff.mpr ⟨apart, fun j => ?_⟩
  by_cases same : j = i
  · rw [same, lane]
    have fit := sh.fits i
    have calm := fit.calm_of_waiting (.inr queued)
    refine ⟨?_, fun poll => absurd calm.poll poll, fun _ _ _ => .inr (.inr rfl),
      fun some => by simp [calm.deferred] at some, fun _ => .inl rfl⟩
    cases io : (s.lane i).io with
    | idle => exact Lane.transferFits_idle io
    | read r issued =>
      have := (Lane.transferFits_read io).mp fit.transfer
      rw [queued] at this
      cases r <;> simp [LaneRead.home] at this
    | seq q =>
      have steady := fit.steady (.inl (by rw [queued]; decide)) q io
      have := (Lane.transferFits_seq io steady).mp fit.transfer
      rw [queued] at this
      cases k : q.kind <;> simp [k, SeqKind.homes] at this
  · rw [others j same, owns j same]
    exact sh.fits j

theorem State.Shapely.withTimingGranted {i : LaneId} (queued : (s.lane i).state = .queued)
    (free : s.timing.owner = none) : (s.withTimingGranted i).Shapely := by
  have unowned := (sh.fits i).not_owned (by rw [queued]; decide) (by rw [queued]; decide)
  have noMix (e : MixId) : (s.mixEng e).owner ≠ some i := fun own =>
    Bool.eq_false_iff.mp unowned ((s.ownsEngine_iff i).mpr (.inr ⟨e, own⟩))
  refine sh.grant queued (s.lane_withTimingGranted i) (fun j other => State.lane_setLane_ne s _ other)
    ⟨fun j own => ?_, sh.1.2⟩ fun j other => ?_
  · obtain rfl := Option.some.inj own
    exact ⟨noMix 0, noMix 1⟩
  · have no : ¬ some i = some j := fun e => other (Option.some.inj e).symm
    have no' : ¬ s.timing.owner = some j := by rw [free]; exact nofun
    simp only [State.ownsEngine, State.withTimingGranted, no, no', decide_false]
    rfl

theorem State.Shapely.beginUnit {i : LaneId} (own : s.timing.owner = some i) (working : (s.lane i).state = .working) :
    (s.beginUnit i).Shapely := by
  have released := sh.releaseTiming own
  unfold State.beginUnit
  split
  · exact released.shapely
  · unfold State.beginSegment
    dsimp only
    repeat' split
    · exact released.retire (by rw [State.lane_releaseTiming, working]; decide) _ _
    all_goals exact sh.timing rfl

theorem State.Shapely.grantTiming : s.grantTiming.Shapely := by
  unfold State.grantTiming
  split
  · exact sh
  next i pick =>
    have want : s.timing.owner = none ∧ (s.lane i).state = .queued := by
      unfold State.timingPick at pick
      split at pick
      next free =>
        rw [Bool.and_eq_true, Option.isNone_iff_eq_none] at free
        have want : (s.lane i).wantsTiming = true := by simpa using List.find?_some pick
        exact ⟨free.1, ((s.lane i).wantsTiming_iff.mp want).1⟩
      · cases pick
    refine (sh.withTimingGranted want.2 want.1).beginUnit rfl ?_
    rw [State.lane_withTimingGranted]

/-- R133: lane i has just been granted Mix Engine e. -/
theorem State.Shapely.mixGranted {i : LaneId} {e : MixId} {m : MixEngine} (queued : (s.lane i).state = .queued)
    (free : (s.mixEng e).owner = none) (owner : m.owner = some i) : ((s.withMixGranted i).setMix e m).Shapely := by
  have unowned := (sh.fits i).not_owned (by rw [queued]; decide) (by rw [queued]; decide)
  have noTiming : s.timing.owner ≠ some i := fun own =>
    Bool.eq_false_iff.mp unowned ((s.ownsEngine_iff i).mpr (.inl own))
  have noMix (f : MixId) : (s.mixEng f).owner ≠ some i := fun own =>
    Bool.eq_false_iff.mp unowned ((s.ownsEngine_iff i).mpr (.inr ⟨f, own⟩))
  have mix (f : MixId) : (((s.withMixGranted i).setMix e m).mixEng f).owner =
      if f = e then some i else (s.mixEng f).owner := by
    rw [State.mixEng_setMix]
    split
    · exact owner
    · rfl
  have other (f : MixId) (j : LaneId) (h : j ≠ i) :
      (((s.withMixGranted i).setMix e m).mixEng f).owner = some j ↔ (s.mixEng f).owner = some j := by
    rw [mix]
    split
    next same => simp [same, free, h.symm]
    · rfl
  refine sh.grant queued (s.lane_withMixGranted i) (fun j h => State.lane_setLane_ne s _ h)
    ⟨fun j own => ?_, fun j own own' => ?_⟩ fun j h => ?_
  · have h : j ≠ i := fun same => noTiming (same ▸ own)
    exact ⟨fun own' => (sh.1.1 j own).1 ((other 0 j h).mp own'), fun own' => (sh.1.1 j own).2 ((other 1 j h).mp own')⟩
  · by_cases h : j = i
    · rw [h, mix] at own own'
      split at own
      next first =>
        split at own'
        next second => exact absurd (first.trans second.symm) (by decide)
        · exact noMix 1 own'
      · exact noMix 0 own
    · exact sh.1.2 j ((other 0 j h).mp own) ((other 1 j h).mp own')
  · rw [Bool.eq_iff_iff, State.ownsEngine_iff, State.ownsEngine_iff]
    exact or_congr Iff.rfl (exists_congr fun f => other f j h)

theorem State.Shapely.grantMix : s.grantMix.Shapely := by
  unfold State.grantMix
  split
  next e i engine pick =>
    have queued : (s.lane i).state = .queued := by
      unfold State.mixPick at pick
      split at pick
      · cases pick
      · have want : (s.lane i).wantsMix = true := by simpa using List.find?_some pick
        exact ((s.lane i).wantsMix_iff.mp want).1
    have free : (s.mixEng e).owner = none := by
      unfold State.freeMix at engine
      split at engine
      next free => exact Option.some.inj engine ▸ Option.isNone_iff_eq_none.mp free
      · split at engine
        next free => exact Option.some.inj engine ▸ Option.isNone_iff_eq_none.mp free
        · cases engine
    change ((s.withMixGranted i).beginMix e i).Shapely
    unfold State.beginMix
    dsimp only
    have granted := sh.mixGranted queued free
      (m := { owner := some i, view := ((s.withMixGranted i).lane i).table, acc := [], phase := .reading }) rfl
    split
    · exact granted
    · split
      · exact granted.computeBlock _ _ _ _ _ _
      · exact granted
  all_goals exact sh

end

end Sys2Proof.Machine
end

section
/-! Write sequences, notices, the teardown, HOLD and the Command Port keep what may be in flight in each lane state. -/

namespace Sys2Proof.Machine

open Sys2Proof

/-! ## Writes of sequences (R111, R154 to R156) -/

/-- A sequence of the same kind, begun like it, with the same last step may take its place. -/
theorem Lane.TransferFits.seq {l m : Lane} {o : Bool} {q p : WriteSeq} (h : l.TransferFits o) (io : l.io = .seq q)
    (io' : m.io = .seq p) (kind : p.kind = q.kind) (begun : p.begun = q.begun)
    (last : p.steps.getLast? = q.steps.getLast?) (state : m.state = l.state) (store : m.store = l.store)
    (table : m.table = l.table) : m.TransferFits o := by
  by_cases teardown : q.kind = .teardown
  · rw [Lane.transferFits_teardown io teardown] at h
    rwa [Lane.transferFits_teardown io' (kind.trans teardown), begun, last, state, store, table]
  · rw [Lane.transferFits_seq io teardown] at h
    rwa [Lane.transferFits_seq io' (kind ▸ teardown), kind, begun, state]

theorem Lane.Fits.wrote {l : Lane} {o : Bool} (fit : l.Fits o) (q : WriteSeq) (k : WriteKind) :
    (l.wrote q k).Fits o := by
  cases k <;> exact ⟨fit.transfer, fit.poll, fit.block, fit.deferred, fit.engine⟩

/-- A sequence that is no teardown is dropped. -/
theorem Lane.Fits.dropSeq {l : Lane} {o : Bool} {q : WriteSeq} (fit : l.Fits o) (io : l.io = .seq q)
    (kind : q.kind ≠ .teardown) : ({ l with io := .idle } : Lane).Fits o := by
  refine ⟨trivial, fit.poll, fit.block, fun some => ?_, fit.engine⟩
  simp [fit.deferred_of_seq io kind] at some

theorem Lane.Fits.slotFailed {l : Lane} {o : Bool} (fit : l.Fits o) (slot : l.slot ≠ none) (own : Bool) :
    (l.slotFailed own).Fits o := by
  have deferred := fit.deferred_of_slot slot
  refine ⟨?_, fit.poll, fit.block, fun some => absurd some (by simp [Lane.slotFailed, deferred]), fit.engine⟩
  unfold Lane.slotFailed
  cases io : l.io with
  | idle => exact Lane.transferFits_idle rfl
  | read r issued => exact (Lane.transferFits_read rfl).mpr ((Lane.transferFits_read io).mp fit.transfer)
  | seq q => exact fit.transfer.seq io rfl rfl rfl rfl rfl rfl rfl

/-- A lane at rest with a deferred notice goes to NOTICE_WAIT. -/
theorem Lane.Fits.waits {l : Lane} {o : Bool} (fit : l.Fits o) (deferred : l.deferred.isSome = true)
    (rest : l.state = .noticeWait ∨ l.state = .stopped ∨ l.state = .halted) (why : Reason) (act : WaitAct) :
    ({ l with haltReason := why, state := .noticeWait, waitAct := act } : Lane).Fits o := by
  have bare := fit.bare_rest rest
  obtain ⟨slot, ⟨-, idle⟩ | ⟨q, io, kind⟩⟩ := fit.deferred deferred
  · exact Lane.Bare.fits_rest ⟨⟨rfl, bare.poll, bare.free⟩, bare.block⟩ (fun _ => slot) (.inl rfl) idle
  · have state := (fit.teardown io kind).1
    simp [state] at rest

section
variable {s : State} {i : LaneId} (sh : s.Shapely)
include sh

/-- The head write ends, with what it changes in the lane, and the sequence goes on. -/
theorem State.Shapely.endWrite {q : WriteSeq} {k : WriteKind} {a : Addr} {b : List Byte} {f : Lane → Lane}
    (head : (s.lane i).headWrite = some (q, k, a, b)) (w : LinkWrite) (failed : Bool)
    (fit : (f (s.lane i)).Fits (s.ownsEngine i)) (io : (f (s.lane i)).io = (s.lane i).io) :
    (((s.put w).modLane i f).popStep i { q with failed := failed }).Shapely := by
  obtain ⟨own, -, rest, steps⟩ := (Lane.headWrite_iff _ _ _ _ _).mp head
  refine ((sh.put w).modLane fit).popStep ?_ steps failed
  rw [State.lane_modLane_same]
  exact io.trans own

theorem State.Shapely.teardownRefused {q : WriteSeq} {k : WriteKind} {a : Addr} {b : List Byte}
    (head : (s.lane i).headWrite = some (q, k, a, b)) : (s.teardownRefused i q a b).Shapely := by
  obtain ⟨own, -, rest, steps⟩ := (Lane.headWrite_iff _ _ _ _ _).mp head
  exact (sh.put (.torn a b)).popStep own steps true

/-- R156: the halt reason is set, and the sequence goes on. -/
theorem State.Shapely.goesOnRefused {q : WriteSeq} {k : WriteKind} {a : Addr} {b : List Byte}
    (head : (s.lane i).headWrite = some (q, k, a, b)) :
    (((s.put (.torn a b)).modLane i fun l => { l with haltReason := .hostAccess }).popStep i q).Shapely :=
  have fit := sh.fits i
  sh.endWrite head (.torn a b) q.failed ⟨fit.transfer, fit.poll, fit.block, fit.deferred, fit.engine⟩ rfl

theorem State.Shapely.writeAccepted (i : LaneId) : (s.writeAccepted i).Shapely := by
  unfold State.writeAccepted
  split
  · exact sh
  next q k a b head =>
    refine sh.endWrite head (.accepted a b) q.failed ((sh.fits i).wrote q k) ?_
    cases k <;> rfl

theorem State.Shapely.haltUnwritten {q : WriteSeq} (io : (s.lane i).io = .seq q) (kind : q.kind ≠ .teardown)
    (r : RecResult) (accepted : Bool) : (s.haltUnwritten i r accepted).Shapely := by
  have fit := sh.fits i
  have dropped := fit.dropSeq io kind
  unfold State.haltUnwritten
  dsimp only
  split
  · simp only [State.modLane_eq, State.lane_setLane_same, State.setLane_setLane]
    exact sh.setLane ⟨dropped.transfer, dropped.poll, dropped.block, dropped.deferred, dropped.engine⟩
  next ab =>
    split
    · exact sh.modLane ⟨fit.transfer, fit.poll, fit.block, fit.deferred, fit.engine⟩
    · have bare := fit.bare_of_seq io kind ab
      simp only [State.modLane_eq, State.lane_setLane_same, State.setLane_setLane, State.startSeq_setLane]
      refine State.Shapely.runSeq (sh.setLane ?_) i
      exact Lane.Bare.fits ⟨⟨bare.deferred, bare.poll, bare.free⟩, bare.block⟩ (.inl rfl)

theorem State.Shapely.retireRefused {q : WriteSeq} {k : WriteKind} {a : Addr} {b : List Byte} {r : RecResult}
    (head : (s.lane i).headWrite = some (q, k, a, b)) (kind : q.kind = .retire r) (accepted : Bool) :
    ((s.put (.torn a b)).haltUnwritten i r accepted).Shapely :=
  (sh.put (.torn a b)).haltUnwritten (Lane.headWrite_io head) (by rw [kind]; exact nofun) r accepted

theorem State.Shapely.statusRefused (i : LaneId) : (s.statusRefused i).Shapely := by
  unfold State.statusRefused
  split
  all_goals try exact sh
  all_goals
    next head =>
      split
      next kind => exact sh.retireRefused head kind _
      · exact sh.teardownRefused head
      all_goals exact sh

theorem State.Shapely.resumePointRefused (i : LaneId) : (s.resumePointRefused i).Shapely := by
  unfold State.resumePointRefused
  split
  next head =>
    split
    next kind => exact sh.retireRefused head kind _
    · exact sh.teardownRefused head
    all_goals exact sh
  all_goals exact sh

theorem State.Shapely.restRefused (i : LaneId) : (s.restRefused i).Shapely := by
  unfold State.restRefused
  split
  next head => exact iteInduction (fun _ => sh.teardownRefused head) fun _ => sh.goesOnRefused head
  all_goals exact sh

theorem State.Shapely.linkRefused (i : LaneId) : (s.linkRefused i).Shapely := by
  unfold State.linkRefused
  split
  next q _ a b head =>
    split
    next link =>
      have io := Lane.headWrite_io head
      have kind : q.kind ≠ .teardown := by rw [link]; decide
      have fit := (sh.fits i).dropSeq io kind
      have dropped := (sh.put (.torn a b)).modLane (i := i)
        (f := fun l => { (l.withEx fun _ => ExecState.zero) with io := .idle })
        ⟨fit.transfer, fit.poll, fit.block, fit.deferred, fit.engine⟩
      dsimp only
      split
      · exact dropped
      next ab =>
        have bare := (sh.fits i).bare_of_seq io kind ab
        refine dropped.failRecord ?_ bare.free _
        rw [State.lane_modLane_same]
        exact bare.deferred
    · exact sh
  all_goals exact sh

theorem State.Shapely.stopRefused (i : LaneId) : (s.stopRefused i).Shapely := by
  unfold State.stopRefused
  split
  next head => exact iteInduction (fun _ => sh.goesOnRefused head) fun _ => sh
  all_goals exact sh

theorem State.Shapely.teardownWriteRefused (i : LaneId) : (s.teardownWriteRefused i).Shapely := by
  unfold State.teardownWriteRefused
  split
  next head => exact iteInduction (fun _ => sh.teardownRefused head) fun _ => sh
  · exact sh

theorem State.Shapely.writeRefused (i : LaneId) : (s.writeRefused i).Shapely := by
  unfold State.writeRefused
  split
  · exact sh
  next head =>
    dsimp only
    split
    · exact sh.teardownRefused head
    · exact sh.statusRefused i
    · exact sh.statusRefused i
    · exact sh.resumePointRefused i
    · exact sh.linkRefused i
    · exact sh.goesOnRefused head

/-! ## The teardown (R126, R127) -/

omit sh in
theorem teardownSteps_last (s : State) (i : LaneId) :
    (teardownSteps s i).getLast? = some (.notice (teardownNotice s (s.lane i))) := List.getLast?_concat

theorem State.Shapely.teardown (i : LaneId) : (s.teardown i).Shapely := by
  unfold State.teardown
  dsimp only
  split
  next ready =>
    obtain ⟨state, flight, -⟩ := ready
    have fit := sh.fits i
    simp only [State.laneInFlight, Bool.or_eq_false_iff, decide_eq_false_iff_not, ne_eq, not_not] at flight
    obtain ⟨⟨io, poll⟩, free⟩ := flight
    have noPoll : (s.lane i).gate.poll = .none := by
      by_contra some
      have := fit.poll some
      simp [poll, state] at this
    have block (off k : Nat) : (s.lane i).giveBack.pf.outstanding ≠ .live off k := by
      change (s.lane i).pf.outstanding.makeStale ≠ _
      rw [BlockRead.makeStale_eq]
      split <;> exact nofun
    have slot (some : (s.lane i).deferred.isSome = true) : (s.lane i).slot = none := (fit.deferred some).1
    have unowned : ¬ s.ownsEngine i = true := Bool.eq_false_iff.mp free
    have given := sh.modLane (i := i) (f := Lane.giveBack) ⟨Lane.transferFits_idle io, fun poll => absurd noPoll poll,
      fun off k live => absurd live (block off k),
      fun some => ⟨slot some, .inl ⟨.inr (.inr (.inr state)), io⟩⟩, fun owned => absurd owned unowned⟩
    refine State.Shapely.startSeq (s := { State.freeClips (State.freeCues _ _) _ with freeCtr := _ }) given ?_
    change Lane.Fits { (s.modLane i Lane.giveBack).lane i with state := _, io := _ } (s.ownsEngine i)
    rw [State.lane_modLane_same]
    refine ⟨?_, fun poll => absurd noPoll poll, fun off k live => absurd live (block off k),
      fun some => ⟨slot some, .inr ⟨_, rfl, rfl⟩⟩, fun owned => absurd owned unowned⟩
    exact ⟨rfl, rfl, rfl, rfl, free, _, teardownSteps_last s i⟩
  · exact sh

end

/-! ## Notice slot writes (R144, R146, R150, R151) -/

section
variable {s : State} {i : LaneId} (sh : s.Shapely)
include sh

theorem State.Shapely.raisePend (i : LaneId) : (s.raisePend i).Shapely := by
  unfold State.raisePend State.askMsi
  dsimp only
  repeat' split
  all_goals exact sh

theorem State.Shapely.slotEnded (deferred : (s.lane i).deferred = none) (own : Bool) : (s.slotEnded i own).Shapely := by
  unfold State.slotEnded
  split
  · split
    next q io => exact sh.finishSeq io deferred
    · exact sh
    · exact sh
  · split
    next waits =>
      have bare := (sh.fits i).bare_of_rest (.inl waits) deferred
      unfold State.leaveWait
      rw [if_pos waits]
      split
      · exact sh.startRead bare (by decide)
      · exact sh.resumeNow bare
      · exact sh.skipNow bare
    · exact sh.runSeq i

theorem State.Shapely.slotPosted {w : SlotWrite} (slot : (s.lane i).slot ≠ none) : (s.slotPosted i w).Shapely := by
  have fit := sh.fits i
  have deferred := fit.deferred_of_slot slot
  have freed := sh.modLane (i := i) (f := fun l => { l with slot := none })
    ⟨fit.transfer, fit.poll, fit.block, fun some => by simp [deferred] at some, fit.engine⟩
  have still : ((s.modLane i fun l => { l with slot := none }).lane i).deferred = none := by
    rw [State.lane_modLane_same]
    exact deferred
  unfold State.slotPosted
  dsimp only
  split
  · exact (freed.raisePend i).slotEnded ((State.lane_raisePend _ _ _).symm ▸ still) _
  · exact freed.slotEnded still _

theorem State.Shapely.slotAccepted (i : LaneId) : (s.slotAccepted i).Shapely := by
  unfold State.slotAccepted
  split
  · exact sh
  next w slot => exact (sh.put _).slotPosted (by rw [State.lane_put, slot]; exact nofun)

theorem State.Shapely.slotRefused (i : LaneId) : (s.slotRefused i).Shapely := by
  unfold State.slotRefused
  split
  · exact sh
  next w slot =>
    have busy : (s.lane i).slot ≠ none := by rw [slot]; exact nofun
    refine (sh.modLane ((sh.fits i).slotFailed busy w.own)).slotPosted ?_
    rw [State.lane_modLane_same]
    exact busy

/-! ## NOTICE_PEND and HOLD (R146, R170) -/

theorem State.Shapely.clearPend (v : BitVec 32) (i : LaneId) : (State.clearPend v s i).Shapely := by
  unfold State.clearPend
  split
  · refine State.Shapely.modLane (s := { s with pend := s.pend &&& ~~~laneBit i }) sh ?_
    have fit := sh.fits i
    change (s.lane i).releaseDeferred.Fits (s.ownsEngine i)
    unfold Lane.releaseDeferred
    split
    · exact ⟨fit.transfer, fit.poll, fit.block, nofun, fit.engine⟩
    all_goals exact fit
  · exact sh

theorem State.Shapely.wakeIO (i : LaneId) : (s.wakeIO i).Shapely := by
  have fit := sh.fits i
  unfold State.wakeIO
  split
  next r io =>
    have home := ((Lane.transferFits_read io).mp fit.transfer).resolve_right fun h => by cases h.2
    refine sh.modLane ⟨(Lane.transferFits_read rfl).mpr (.inl home), fit.poll, fit.block, fun some => ?_, fit.engine⟩
    obtain ⟨-, ⟨-, idle⟩ | ⟨q, seq, -⟩⟩ := fit.deferred some
    · rw [io] at idle
      cases idle
    · rw [io] at seq
      cases seq
  · exact sh
  next q io =>
    split
    · exact sh
    next waits =>
      have kind : q.kind ≠ .teardown := fun kind => waits (fit.teardown io kind).2.1
      have home := ((Lane.transferFits_seq io kind).mp fit.transfer).resolve_right fun h => waits h.2
      refine State.Shapely.runSeq (sh.modLane ⟨?_, fit.poll, fit.block, fun some => ?_, fit.engine⟩) i
      · exact (Lane.transferFits_seq (q := { q with begun := true }) rfl kind).mpr (.inl home)
      · simp [fit.deferred_of_seq io kind] at some
  · exact sh

theorem State.Shapely.wake (i : LaneId) : (s.wake i).Shapely := by
  refine State.Shapely.prefetch ((sh.wakeIO i).modLane ?_) i
  have fit := (sh.wakeIO i).fits i
  unfold Lane.wakePoll
  split
  next due =>
    refine ⟨fit.transfer, fun _ => .inl ?_, fit.block, fit.deferred, fit.engine⟩
    refine (fit.poll (by rw [due.1]; decide)).resolve_right fun h => ?_
    rw [due.1] at h
    cases h.2
  · exact fit

omit sh in
theorem foldl_shapely {f : State → LaneId → State} (keeps : ∀ s i, s.Shapely → (f s i).Shapely) (is : List LaneId)
    {s : State} (sh : s.Shapely) : (is.foldl f s).Shapely := by
  induction is generalizing s with
  | nil => exact sh
  | cons i is ih => exact ih (keeps s i sh)

theorem State.Shapely.holdCleared : s.holdCleared.Shapely := by
  unfold State.holdCleared
  exact iteInduction (fun _ => foldl_shapely (fun _ i sh => sh.wake i) laneIds (s := { s with dev := .run }) sh)
    fun _ => sh

/-! ## What fails off the link (R167) -/

theorem FailStep.shapely {t : State} (h : FailStep s i t) : t.Shapely := by
  cases h with
  | segment own => exact sh.segmentRefused
  | compare own => exact sh.compareFailed
  | clips e own => exact sh.clipsFailed e
  | output e own => exact sh.blockRefused e
  | block => exact sh.blockFailed i
  | stale => exact sh.staleEnded i
  | poll => exact sh.pollFailed i
  | entry => exact sh.entryFailed i
  | fetch => exact sh.fetchFailed i
  | intake => exact sh.intakeFailed i
  | slot => exact sh.slotRefused i
  | write => exact sh.writeRefused i

end

/-! ## The Command Port (R119 to R125, R129) -/

section
variable {s : State} {i : LaneId} (sh : s.Shapely)
include sh

theorem State.Shapely.startLane (idle : (s.lane i).state = .idle) : (s.startLane i).Shapely := by
  have bare := (sh.fits i).bare (.inl idle)
  unfold State.startLane
  rw [State.modLane_eq, State.startRead_eq]
  simp only [State.lane_setLane_same, State.setLane_setLane]
  exact sh.setLane (Lane.Bare.fits ⟨⟨bare.deferred, bare.poll, bare.free⟩, bare.block⟩ (.inl rfl))

theorem State.Shapely.continueNow (i : LaneId) : (s.continueNow i).Shapely := by
  have fit := sh.fits i
  unfold State.continueNow
  dsimp only
  split
  next stopped =>
    split
    next deferred => exact sh.modLane (fit.waits deferred (.inr (.inl stopped)) (s.lane i).haltReason .fetch)
    next none =>
      have none : (s.lane i).deferred = .none := by simpa using none
      have bare := fit.bare_of_rest (.inr (.inl stopped)) none
      split
      · exact sh.startRead bare (by decide)
      next busy =>
        refine sh.modLane (Lane.Bare.fits ⟨⟨bare.deferred, bare.poll, bare.free⟩, bare.block⟩ ?_)
        cases io : (s.lane i).io with
        | idle => exact absurd io busy
        | read r issued =>
          have := (Lane.transferFits_read io).mp fit.transfer
          cases r <;> simp [LaneRead.home, stopped] at this
        | seq q =>
          have kind := fit.steady (.inl (by rw [stopped]; decide)) q io
          have home := (Lane.transferFits_seq io kind).mp fit.transfer
          refine (Lane.transferFits_seq (q := q) rfl kind).mpr (.inl ?_)
          rw [stopped] at home
          cases k : q.kind <;> simp [k, SeqKind.homes] at home ⊢
  · exact sh.modLane ⟨fit.transfer, fit.poll, fit.block, fit.deferred, fit.engine⟩

/-- RESUME and SKIP set the halt reason to none. -/
theorem State.Shapely.unhalt (i : LaneId) : (s.modLane i fun l => { l with haltReason := .none }).Shapely :=
  have fit := sh.fits i
  sh.modLane ⟨fit.transfer, fit.poll, fit.block, fit.deferred, fit.engine⟩

theorem State.Shapely.unhalt_bare (halted : (s.lane i).state = .halted)
    (none : ¬ (s.lane i).deferred.isSome = true) :
    ((s.modLane i fun l => { l with haltReason := .none }).lane i).Bare (s.ownsEngine i) := by
  have bare := (sh.fits i).bare_of_rest (.inr (.inr halted)) (by simpa using none)
  rw [State.lane_modLane_same]
  exact ⟨⟨bare.deferred, bare.poll, bare.free⟩, bare.block⟩

theorem State.Shapely.unhalt_waits (halted : (s.lane i).state = .halted)
    (deferred : (s.lane i).deferred.isSome = true) (act : WaitAct) :
    ((s.modLane i fun l => { l with haltReason := .none }).modLane i
      fun l => { l with state := .noticeWait, waitAct := act }).Shapely := by
  simp only [State.modLane_eq, State.lane_setLane_same, State.setLane_setLane]
  exact sh.setLane ((sh.fits i).waits deferred (.inr (.inr halted)) .none act)

theorem State.Shapely.resumeAction (halted : (s.lane i).state = .halted) : (s.resumeAction i).Shapely :=
  iteInduction (fun deferred => sh.unhalt_waits halted deferred .resume)
    fun none => (sh.unhalt i).resumeNow (sh.unhalt_bare halted none)

theorem State.Shapely.skipAction (halted : (s.lane i).state = .halted) : (s.skipAction i).Shapely :=
  iteInduction (fun deferred => sh.unhalt_waits halted deferred .skip)
    fun none => (sh.unhalt i).skipNow (sh.unhalt_bare halted none)

theorem State.Shapely.abandonLane (ab : (s.lane i).state ≠ .abandoning) : (s.abandonLane i).Shapely := by
  have fit := sh.fits i
  refine sh.modLane ⟨?_, fun poll => .inr ⟨rfl, ?_⟩, fun off k live => ?_, fun some => ?_, fun _ => .inr rfl⟩
  · cases io : (s.lane i).io with
    | idle => exact Lane.transferFits_idle rfl
    | read r issued =>
      cases issued
      · exact Lane.transferFits_idle rfl
      · exact (Lane.transferFits_read rfl).mpr (.inr ⟨rfl, rfl⟩)
    | seq q =>
      have kind := fit.steady (.inl ab) q io
      cases begun : q.begun
      · exact Lane.transferFits_idle (by simp [LaneIO.inFlightOnly, begun])
      · exact (Lane.transferFits_seq (q := q) (by simp [LaneIO.inFlightOnly, begun]) kind).mpr (.inr ⟨rfl, begun⟩)
  · unfold Gate.abandon at poll ⊢
    dsimp only at poll ⊢
    split at poll
    next out => rw [if_pos out]
    · exact absurd rfl poll
  · change (s.lane i).pf.outstanding.makeStale = _ at live
    rw [BlockRead.makeStale_eq] at live
    split at live <;> cases live
  · obtain ⟨slot, ⟨-, idle⟩ | ⟨q, io, kind⟩⟩ := fit.deferred some
    · exact ⟨slot, .inl ⟨.inr (.inr (.inr rfl)), by simp [idle, LaneIO.inFlightOnly]⟩⟩
    · exact absurd (fit.teardown io kind).1 ab

end

end Sys2Proof.Machine
end

section
/-! Every command keeps what may be in flight in each lane state, O6, and with it both pools whole, O7. -/

namespace Sys2Proof.Machine

open Sys2Proof

/-! ## The pools (R17, R61) -/

/-- A sum over the lanes when one lane's share changes. -/
theorem sum_lanes_of_one {f g : LaneId → Nat} (i : LaneId) (others : ∀ j, j ≠ i → g j = f j) :
    (laneIds.map g).sum + f i = (laneIds.map f).sum + g i := by
  have split (h : LaneId → Nat) : (laneIds.map h).sum = h i + ∑ j ∈ Finset.univ.erase i, h j := by
    rw [laneIds, ← Fin.sum_univ_def, Finset.add_sum_erase _ _ (Finset.mem_univ i)]
  have rest : ∑ j ∈ Finset.univ.erase i, g j = ∑ j ∈ Finset.univ.erase i, f j :=
    Finset.sum_congr rfl fun j mem => others j (Finset.ne_of_mem_erase mem)
  rw [split f, split g, rest]
  omega

/-- A lane on which a teardown runs holds no place. -/
def Lane.EmptyInTeardown (l : Lane) : Prop := ∀ q, l.io = .seq q → q.kind = .teardown → l.store = [] ∧ l.table = []

theorem Lane.Fits.emptyInTeardown {l : Lane} {o : Bool} (fit : l.Fits o) : l.EmptyInTeardown := fun _ io kind =>
  have ⟨_, _, store, table, _⟩ := fit.teardown io kind
  ⟨store, table⟩

theorem Lane.Kept.places {l m : Lane} (kept : Lane.Kept l m) (empty : l.EmptyInTeardown) :
    m.store.length = l.store.length ∧ m.table.length = l.table.length := by
  obtain same | ⟨q, io, kind, same⟩ := kept
  · rw [same.store, same.table]
    exact ⟨rfl, rfl⟩
  · obtain ⟨store, table⟩ := empty q io kind
    rw [same.store, same.table, store, table]
    exact ⟨rfl, rfl⟩

/-- What a lane gains in places, its pool loses. -/
theorem TrackStep.places {s t : State} {i : LaneId} (step : TrackStep s t i) (empty : (s.lane i).EmptyInTeardown) :
    (t.lane i).store.length + t.cueFree = (s.lane i).store.length + s.cueFree
      ∧ (t.lane i).table.length + t.clipFree = (s.lane i).table.length + s.clipFree := by
  cases step with
  | same k hc hd => rw [k.store, k.table, hc, hd]; exact ⟨rfl, rfl⟩
  | torn q io kind k hc hd =>
    obtain ⟨store, table⟩ := empty q io kind
    rw [k.store, k.table, hc, hd, store, table]
    exact ⟨rfl, rfl⟩
  | gaveBack k hc hd =>
    rw [k.store, k.table, hc, hd]
    exact ⟨by simp [Lane.giveBack, Nat.add_comm], by simp [Lane.giveBack, Nat.add_comm]⟩
  | opened _ _ _ _ k hc hd =>
    rw [k.store, k.table, hc, hd]
    exact ⟨by simp [Lane.opened, Nat.add_comm], by simp [Lane.opened, Nat.add_comm]⟩
  | closed ns k hc hd =>
    rw [k.store, k.table, hc, hd]
    exact ⟨by simp [Lane.closed, Lane.credit, Nat.add_comm], by simp [Lane.closed, Lane.credit, Nat.add_comm]⟩
  | cues c w hw k hc hd =>
    rw [k.store, k.table, hc, hd, hw]
    exact ⟨cueUnit_places _ _ _ _, rfl⟩
  | clipDropped ns k hc hd => rw [k.store, k.table, hc, hd]; exact ⟨rfl, rfl⟩
  | clipInserted b e ns unit k hc hd =>
    obtain ⟨-, free, -, -⟩ := clipUnit_inserted unit
    have length := (perm_insertClip e (s.lane i).table).length_eq
    rw [List.length_cons] at length
    rw [k.store, k.table, hc, hd]
    refine ⟨rfl, ?_⟩
    change (insertClip e (s.lane i).table).length + _ = _
    omega
  | segment size diff k hc hd =>
    rw [k.store, k.table, hc, hd]
    refine ⟨?_, rfl⟩
    change (keepAfter _ (markPieces _ _ _ (s.lane i).store)).length + (_ + ((s.lane i).store.length - _)) = _
    have fewer : (keepAfter (((s.lane i).nextSeg + 1) * (s.lane i).par.segDur) (s.lane i).store).length
        ≤ (s.lane i).store.length := List.length_filter_le _ _
    rw [length_keepAfter_markPieces]
    omega
  | block n ns k hc hd =>
    rw [k.store, k.table, hc, hd]
    refine ⟨rfl, ?_⟩
    change ((s.lane i).table.filter _).length + (_ + ((s.lane i).table.length - ((s.lane i).table.filter _).length)) = _
    have fewer := List.length_filter_le (fun e => !e.finished ((s.lane i).mixPos + n)) (s.lane i).table
    omega

theorem OneTrack.poolsWhole {s t : State} (one : OneTrack s t) (sh : s.Shapely) (whole : s.PoolsWhole) :
    t.PoolsWhole := by
  obtain ⟨i, others, step⟩ := one
  have empty (j : LaneId) := (sh.fits j).emptyInTeardown
  obtain ⟨cues, clips⟩ := step.places (empty i)
  have store := sum_lanes_of_one (f := fun j => (s.lane j).store.length) (g := fun j => (t.lane j).store.length) i
    fun j other => ((others j other).places (empty j)).1
  have table := sum_lanes_of_one (f := fun j => (s.lane j).table.length) (g := fun j => (t.lane j).table.length) i
    fun j other => ((others j other).places (empty j)).2
  unfold State.PoolsWhole State.cuesHeld State.clipsHeld at *
  omega

/-! ## Steps that keep both -/

/-- From s to t what may be in flight is kept, and with it the pools. -/
def Sound (s t : State) : Prop := s.Shapely → t.Shapely ∧ (s.PoolsWhole → t.PoolsWhole)

theorem Sound.of {s t : State} (one : OneTrack s t) (shapely : s.Shapely → t.Shapely) : Sound s t :=
  fun sh => ⟨shapely sh, one.poolsWhole sh⟩

theorem Sound.refl (s : State) : Sound s s := fun sh => ⟨sh, id⟩

theorem Sound.trans {s t u : State} (h : Sound s t) (k : Sound t u) : Sound s u := fun sh =>
  have ⟨sht, whole⟩ := h sh
  have ⟨shu, whole'⟩ := k sht
  ⟨shu, whole' ∘ whole⟩

theorem Sound.ite {s t : State} {p : Prop} [Decidable p] (h : p → Sound s t) : Sound s (if p then t else s) :=
  iteInduction h fun _ => .refl s

/-- Registers that no lane sees. -/
theorem Sound.registers {s t : State} (lanes : t.lanes = s.lanes) (cues : t.cueFree = s.cueFree)
    (clips : t.clipFree = s.clipFree) (timing : t.timing = s.timing) (mix : t.mix = s.mix) : Sound s t := by
  refine .of (State.Keeps.of lanes cues clips).oneTrack fun sh => sh.yield (fun j => ?_) (fun i own => ?_) fun e i own => ?_
  · rw [State.lane, lanes]
    rfl
  · rwa [timing] at own
  · rwa [State.mixEng, mix] at own

theorem Fails.sound {s t : State} (h : Fails s t) : Sound s t := by
  induction h with
  | refl => exact .refl _
  | step i h _ ih =>
    have step := State.failOne_step h
    exact .trans (.of step.oneTrack fun sh => step.shapely sh) ih

theorem Sound.onLink {s t : State} (h : Sound s t) (u : State) (i : LaneId) : Sound s (u.onLink i t) :=
  h.trans (State.onLink_fails u i t).sound

theorem Sound.onLinkOf {s t : State} (h : Sound s t) (u : State) (o : Option LaneId) : Sound s (u.onLinkOf o t) := by
  cases o
  · exact h
  · exact h.onLink u _

theorem Sound.onLinkAll {s t : State} (h : Sound s t) (u : State) : Sound s (u.onLinkAll t) :=
  h.trans (State.onLinkAll_fails u t).sound

/-! ## The Command Port and INSPECT -/

theorem Sound.inspectReadFailed (s : State) : Sound s s.inspectReadFailed := by
  unfold State.inspectReadFailed
  repeat' split
  all_goals exact .registers rfl rfl rfl rfl rfl

theorem Sound.inspectRefused (s : State) : Sound s s.inspectRefused := by
  unfold State.inspectRefused
  repeat' split
  all_goals exact .registers rfl rfl rfl rfl rfl

theorem Sound.inspectRead (s : State) (b : BitVec 96) : Sound s (s.inspectRead b) := by
  unfold State.inspectRead
  repeat' split
  all_goals exact .registers rfl rfl rfl rfl rfl

theorem Sound.inspectWritten (s : State) : Sound s s.inspectWritten := by
  unfold State.inspectWritten
  repeat' split
  all_goals exact .registers rfl rfl rfl rfl rfl

theorem Sound.onLinkInspect {s t : State} (h : Sound s t) (u : State) : Sound s (u.onLinkInspect t) :=
  iteInduction (fun _ => h) fun _ => (h.trans (.inspectReadFailed t)).trans (.inspectRefused _)

/-- R120: an accepted action meets a lane in a state that it may act on. -/
theorem actionAccepted_state {a : Action} {l : Lane} {held : Bool} (accepted : actionAccepted a l held = true) :
    (a = .start → l.state = .idle) ∧ (a = .resume ∨ a = .skip → l.state = .halted)
      ∧ (a = .abandon → l.state ≠ .abandoning) := by
  cases a <;> simp [actionAccepted] at accepted ⊢
  · exact accepted
  · exact accepted
  · exact accepted.1
  · intro ab
    simp [ab, LaneState.running] at accepted

theorem Sound.perform (s : State) (i : LaneId) (a : Action) (held : Bool)
    (accepted : actionAccepted a (s.lane i) held = true) : Sound s (s.perform i a) := by
  obtain ⟨start, halted, abandon⟩ := actionAccepted_state accepted
  cases a with
  | start =>
    refine (Sound.of (State.Keeps.oneTrack ?_) fun sh => sh.startLane (start rfl)).onLink s i
    exact (State.Keeps.mod s i _ (by constructor <;> rfl)).trans (State.Keeps.startRead _ _ _ _)
  | continueLane => exact (Sound.of (State.Keeps.continueNow s i).oneTrack fun sh => sh.continueNow i).onLink s i
  | resume =>
    exact (Sound.of (State.Keeps.resumeAction s i).oneTrack fun sh => sh.resumeAction (halted (.inl rfl))).onLink s i
  | skip => exact (Sound.of (State.Keeps.skipAction s i).oneTrack fun sh => sh.skipAction (halted (.inr rfl))).onLink s i
  | abandon =>
    exact Sound.of (State.Keeps.mod s i _ (by constructor <;> rfl)).oneTrack fun sh => sh.abandonLane (abandon rfl)
  | inspect => exact (Sound.registers (t := s.startInspect i) rfl rfl rfl rfl rfl).onLinkInspect s

theorem Sound.laneCmd (s : State) (i : LaneId) (code : BitVec 4) : Sound s (s.laneCmd i code) := by
  have port (p : CmdPort) : Sound s { s with port := p } := .registers rfl rfl rfl rfl rfl
  unfold State.laneCmd
  refine iteInduction (fun _ => port _) fun _ => ?_
  split
  · exact port _
  next a code' =>
    refine iteInduction (fun accepted => (port (s.port.judged i code (judgeAction s i a))).trans ?_) fun _ => port _
    refine Sound.perform _ i a (decide (s.dev = .held)) ?_
    unfold judgeAction at accepted
    split at accepted
    next ok => exact ok
    · cases accepted

theorem Sound.readTimeout (s : State) (r : ReadRef) : Sound s (s.readTimeout r) := by
  have clips (s : State) (i : LaneId) (e : MixId) : Sound s (s.clipsTimeout i e) :=
    iteInduction (fun _ => (Sound.of (State.Keeps.clipsFailed s e).oneTrack fun sh => sh.clipsFailed e).onLink s i)
      fun _ => .refl s
  unfold State.readTimeout
  split
  · exact (Sound.of (State.entryFailed_oneTrack s _) fun sh => sh.entryFailed _).onLink s _
  · exact (Sound.of (State.fetchFailed_oneTrack s _) fun sh => sh.fetchFailed _).onLink s _
  · exact (Sound.of (State.pollFailed_oneTrack s _) fun sh => sh.pollFailed _).onLink s _
  · exact (Sound.of (State.intakeFailed_oneTrack s _) fun sh => sh.intakeFailed _).onLink s _
  · exact .ite fun _ => (Sound.of (State.Keeps.compareFailed s).oneTrack fun sh => sh.compareFailed).onLinkOf s _
  · exact (clips _ _ _).trans (clips _ _ _)
  next i =>
    refine Sound.onLink ?_ s _
    unfold State.blockTimeout
    split
    · exact .of (State.Keeps.staleEnded s i).oneTrack fun sh => sh.staleEnded i
    · exact .of (State.Keeps.blockFailed s i).oneTrack fun sh => sh.blockFailed i
  · exact .inspectReadFailed s

/-! ## Every command -/

theorem Sound.writePend (s : State) (v : BitVec 32) : Sound s (s.writePend v) :=
  .of (State.Keeps.writePend s v).oneTrack fun sh => foldl_shapely (fun _ i sh => sh.clearPend v i) laneIds sh

theorem Sound.writeMask (s : State) (v : BitVec 32) : Sound s (s.writeMask v) := by
  obtain ⟨ws, n, e⟩ := State.writeMask_eq s v
  rw [e]
  exact .registers rfl rfl rfl rfl rfl

theorem Sound.writeDirBase (s : State) (half : DirHalf) (v : BitVec 32) : Sound s (s.writeDirBase half v) :=
  .ite fun _ => .registers rfl rfl rfl rfl rfl

/-- R171: the lanes, the engines and the pools after a reset are those of power-on. -/
theorem Sound.reset (s : State) : Sound s s.deviceReset ∧ Sound s s.functionReset :=
  ⟨fun _ => ⟨State.shapely_reset, fun _ => State.poolsWhole_reset⟩,
    fun _ => ⟨State.shapely_reset, fun _ => State.poolsWhole_reset⟩⟩

theorem Sound.pollPhase (s : State) (i : LaneId) : Sound s
    (if (s.lane i).gate.poll = .phase ∧ s.hold = false then s.onLink i (s.endPoll i .outstanding) else s) := by
  refine .ite fun due => (Sound.of (State.endPoll_oneTrack s i _) fun sh => sh.endPoll ?_ _).onLink s i
  refine ((sh.fits i).poll (by rw [due.1]; decide)).resolve_right fun h => ?_
  rw [due.1] at h
  cases h.2

theorem exec_sound (c : Instr) (s : State) : ∃ t, exec c s = .next t ∧ Sound s t := by
  cases c with
  | start i => exact ⟨_, rfl, .laneCmd s i _⟩
  | continueLane i => exact ⟨_, rfl, .laneCmd s i _⟩
  | resume i => exact ⟨_, rfl, .laneCmd s i _⟩
  | skip i => exact ⟨_, rfl, .laneCmd s i _⟩
  | abandon i => exact ⟨_, rfl, .laneCmd s i _⟩
  | inspect i => exact ⟨_, rfl, .laneCmd s i _⟩
  | refusedAction i code => exact ⟨_, rfl, .laneCmd s i code⟩
  | noticePendWrite v => exact ⟨_, rfl, (Sound.writePend s v).onLinkAll s⟩
  | noticeMaskWrite v => exact ⟨_, rfl, .writeMask s v⟩
  | dirBaseWrite half v => exact ⟨_, rfl, .writeDirBase s half v⟩
  | holdSet => exact ⟨_, rfl, iteInduction (fun _ => .refl s) fun _ => .registers rfl rfl rfl rfl rfl⟩
  | holdClear =>
    exact ⟨_, rfl, .ite fun _ => (Sound.of (State.holdCleared_oneTrack s) fun sh => sh.holdCleared).onLinkAll s⟩
  | devCtrlReset => exact ⟨_, rfl, (Sound.reset s).1⟩
  | registerWriteIgnored offset n v => exact ⟨_, rfl, .refl s⟩
  | functionLevelReset => exact ⟨_, rfl, (Sound.reset s).2⟩
  | powerOn => exact ⟨_, rfl, (Sound.reset s).2⟩
  | entryReadComplete i a =>
    exact ⟨_, rfl, (Sound.of (State.entryRead_oneTrack s i a) fun sh => sh.entryRead i a).onLink s i⟩
  | entryReadFail i =>
    exact ⟨_, rfl, (Sound.of (State.entryFailed_oneTrack s i) fun sh => sh.entryFailed i).onLink s i⟩
  | recordHeaderReadComplete i b =>
    exact ⟨_, rfl, (Sound.of (State.headerRead_oneTrack s i b) fun sh => sh.headerRead i b).onLink s i⟩
  | recordBodyReadComplete i b =>
    exact ⟨_, rfl, (Sound.of (State.bodyRead_oneTrack s i b) fun sh => sh.bodyRead i b).onLink s i⟩
  | recordFetchReadFail i =>
    exact ⟨_, rfl, (Sound.of (State.fetchFailed_oneTrack s i) fun sh => sh.fetchFailed i).onLink s i⟩
  | gatePollComplete i w =>
    exact ⟨_, rfl, (Sound.of (State.pollDone_oneTrack s i w) fun sh => sh.pollDone i w).onLink s i⟩
  | gatePollFail i =>
    exact ⟨_, rfl, (Sound.of (State.pollFailed_oneTrack s i) fun sh => sh.pollFailed i).onLink s i⟩
  | pollPhaseExpiry i => exact ⟨_, rfl, .pollPhase s i⟩
  | gateTimeout i =>
    exact ⟨_, rfl, .ite fun gated =>
      (Sound.of (State.failRecord_oneTrack s i _) fun sh => sh.failGated gated.1 _).onLink s i⟩
  | readTimeout r => exact ⟨_, rfl, .readTimeout s r⟩
  | lateCompletion r => exact ⟨_, rfl, .refl s⟩
  | intakeReadComplete i cues =>
    exact ⟨_, rfl, (Sound.of (State.intakeDone_oneTrack s i cues) fun sh => sh.intakeDone i cues).onLink s i⟩
  | intakeReadFail i =>
    exact ⟨_, rfl, (Sound.of (State.intakeFailed_oneTrack s i) fun sh => sh.intakeFailed i).onLink s i⟩
  | timingEngineGrant =>
    exact ⟨_, rfl, (Sound.of (State.Keeps.grantTiming s).oneTrack fun sh => sh.grantTiming).onLinkOf s _⟩
  | mixEngineGrant =>
    exact ⟨_, rfl, (Sound.of (State.Keeps.grantMix s).oneTrack fun sh => sh.grantMix).onLinkOf s _⟩
  | cueUnitEnd => exact ⟨_, rfl, (Sound.of (State.cueUnitEnds_oneTrack s) fun sh => sh.cueUnitEnds).onLinkOf s _⟩
  | clipUnitEnd => exact ⟨_, rfl, (Sound.of (State.clipUnitEnds_oneTrack s) fun sh => sh.clipUnitEnds).onLinkOf s _⟩
  | segmentWriteAccepted =>
    exact ⟨_, rfl, (Sound.of (State.segmentWritten_oneTrack s) fun sh => sh.segmentWritten).onLinkOf s _⟩
  | segmentWriteRefused =>
    exact ⟨_, rfl, (Sound.of (State.Keeps.segmentRefused s).oneTrack fun sh => sh.segmentRefused).onLinkOf s _⟩
  | compareReadComplete b =>
    exact ⟨_, rfl, (Sound.of (State.segmentCompared_oneTrack s b) fun sh => sh.segmentCompared b).onLinkOf s _⟩
  | compareReadFail =>
    exact ⟨_, rfl, (Sound.of (State.Keeps.compareFailed s).oneTrack fun sh => sh.compareFailed).onLinkOf s _⟩
  | blockReadComplete i b =>
    exact ⟨_, rfl, (Sound.of (State.Keeps.blockRead s i b).oneTrack fun sh => sh.blockRead i b).onLink s i⟩
  | blockReadFail i =>
    exact ⟨_, rfl, (Sound.of (State.Keeps.blockFailed s i).oneTrack fun sh => sh.blockFailed i).onLink s i⟩
  | staleReadEnd i =>
    exact ⟨_, rfl, (Sound.of (State.Keeps.staleEnded s i).oneTrack fun sh => sh.staleEnded i).onLink s i⟩
  | clipSampleReadComplete e runs =>
    exact ⟨_, rfl, (Sound.of (State.Keeps.clipsRead s e runs).oneTrack fun sh => sh.clipsRead e runs).onLinkOf s _⟩
  | clipSampleReadFail e =>
    exact ⟨_, rfl, (Sound.of (State.Keeps.clipsFailed s e).oneTrack fun sh => sh.clipsFailed e).onLinkOf s _⟩
  | mixOutputWriteAccepted e =>
    exact ⟨_, rfl, (Sound.of (State.blockWritten_oneTrack s e) fun sh => sh.blockWritten e).onLinkOf s _⟩
  | mixOutputWriteRefused e =>
    exact ⟨_, rfl, (Sound.of (State.Keeps.blockRefused s e).oneTrack fun sh => sh.blockRefused e).onLinkOf s _⟩
  | retirementWriteAccepted i =>
    exact ⟨_, rfl, (Sound.of (State.writeAccepted_oneTrack s i) fun sh => sh.writeAccepted i).onLink s i⟩
  | statusWriteRefused i =>
    exact ⟨_, rfl, (Sound.of (State.statusRefused_oneTrack s i) fun sh => sh.statusRefused i).onLink s i⟩
  | resumePointWriteRefused i =>
    exact ⟨_, rfl, (Sound.of (State.resumePointRefused_oneTrack s i) fun sh => sh.resumePointRefused i).onLink s i⟩
  | restStateWriteRefused i =>
    exact ⟨_, rfl, (Sound.of (State.restRefused_oneTrack s i) fun sh => sh.restRefused i).onLink s i⟩
  | linkResumePointRefused i =>
    exact ⟨_, rfl, (Sound.of (State.linkRefused_oneTrack s i) fun sh => sh.linkRefused i).onLink s i⟩
  | stopResumePointRefused i =>
    exact ⟨_, rfl, (Sound.of (State.stopRefused_oneTrack s i) fun sh => sh.stopRefused i).onLink s i⟩
  | teardownWriteRefused i =>
    exact ⟨_, rfl, (Sound.of (State.teardownWriteRefused_oneTrack s i) fun sh => sh.teardownWriteRefused i).onLink s i⟩
  | noticeSlotWriteAccepted i =>
    exact ⟨_, rfl, (Sound.of (State.slotAccepted_oneTrack s i) fun sh => sh.slotAccepted i).onLink s i⟩
  | noticeSlotWriteRefused i =>
    exact ⟨_, rfl, (Sound.of (State.slotRefused_oneTrack s i) fun sh => sh.slotRefused i).onLink s i⟩
  | msiWriteRefused => exact ⟨_, rfl, .refl s⟩
  | abandonTeardown i =>
    exact ⟨_, rfl, (Sound.of (State.teardown_oneTrack s i) fun sh => sh.teardown i).onLink s i⟩
  | holdDrainComplete => exact ⟨_, rfl, .ite fun _ => .registers rfl rfl rfl rfl rfl⟩
  | inspectEntryReadComplete b => exact ⟨_, rfl, (Sound.inspectRead s b).onLinkInspect s⟩
  | inspectEntryReadFail => exact ⟨_, rfl, .inspectReadFailed s⟩
  | inspectDone => exact ⟨_, rfl, .inspectWritten s⟩
  | inspectFailed => exact ⟨_, rfl, .inspectRefused s⟩

theorem Sound.of_exec {c : Instr} {s t : State} (h : exec c s = .next t) : Sound s t := by
  obtain ⟨t', h', sound⟩ := exec_sound c s
  rw [h'] at h
  injection h with e
  exact e ▸ sound

/-- Settles O6: every command is sound. -/
theorem laneStatesKept : Obligations.LaneStatesKept := fun _ _ _ sh h => (Sound.of_exec h sh).1

/-- Settles O7: every command is sound. -/
theorem poolsKept : Obligations.PoolsKept := fun _ _ _ sh whole h => (Sound.of_exec h sh).2 whole

end Sys2Proof.Machine
end

section
/-! Read timeouts, and what is asked of the link while bus mastering is disabled (R152, R167): what a lane has in flight,
and how it fails. -/

namespace Sys2Proof.Machine

open Sys2Proof

/-! ## Failures give engines up and take none -/

structure State.Yields (s t : State) : Prop where
  timing : ∀ i, t.timing.owner = some i → s.timing.owner = some i
  mix : ∀ (e : MixId) (i : LaneId), (t.mixEng e).owner = some i → (s.mixEng e).owner = some i

theorem State.Yields.same {s t : State} (timing : t.timing = s.timing) (mix : t.mix = s.mix) : s.Yields t :=
  ⟨fun _ => by rw [timing]; exact id, fun e _ => by unfold State.mixEng; rw [mix]; exact id⟩

theorem State.Yields.refl (s : State) : s.Yields s := .same rfl rfl

theorem State.Yields.trans {s t u : State} (h : s.Yields t) (k : t.Yields u) : s.Yields u :=
  ⟨fun i own => h.timing i (k.timing i own), fun e i own => h.mix e i (k.mix e i own)⟩

theorem State.Yields.lane {s t : State} {i : LaneId} (h : State.LaneOnly i s t) : s.Yields t :=
  .same h.fields.2.2.1 h.fields.2.2.2.1

theorem State.Yields.modLane (s : State) (i : LaneId) (f : Lane → Lane) : s.Yields (s.modLane i f) := .same rfl rfl

theorem State.Yields.put (s : State) (w : LinkWrite) : s.Yields (s.put w) := .same rfl rfl

theorem State.Yields.failRecord (s : State) (i : LaneId) (why : Reason) : s.Yields (s.failRecord i why) :=
  .lane (State.laneOnly_failRecord s i why)

theorem State.Yields.popStep (s : State) (i : LaneId) (q : WriteSeq) : s.Yields (s.popStep i q) :=
  .lane (State.laneOnly_popStep s i q)

theorem State.Yields.timingUnitFails (s : State) (i : LaneId) : s.Yields (s.timingUnitFails i) := by
  have released : s.Yields s.releaseTiming := ⟨nofun, fun _ _ => id⟩
  exact iteInduction (fun _ => released) fun _ => released.trans (.failRecord _ _ _)

theorem State.Yields.mixFails (s : State) (e : MixId) (i : LaneId) : s.Yields (s.mixFails e i) := by
  have released : s.Yields (s.releaseMix e) := by
    refine ⟨fun _ => id, fun f j own => ?_⟩
    by_cases same : f = e
    · rw [same, State.mixEng_releaseMix_same] at own
      cases own
    · rwa [State.mixEng_releaseMix_ne s same] at own
  exact iteInduction (fun _ => released) fun _ => released.trans (.failRecord _ _ _)

theorem State.Yields.slotPosted (s : State) (i : LaneId) (w : SlotWrite) : s.Yields (s.slotPosted i w) := by
  rw [State.slotPosted_eq]
  refine State.Yields.trans ?_ (.lane (State.laneOnly_slotEnded _ _ _))
  exact .same rfl rfl

theorem State.Yields.goesOnRefused (s : State) (i : LaneId) (q : WriteSeq) (w : LinkWrite) (f : Lane → Lane) :
    s.Yields (((s.put w).modLane i f).popStep i q) := by
  refine State.Yields.trans ?_ (.popStep _ _ _)
  exact .same rfl rfl

theorem State.Yields.haltUnwritten (s : State) (i : LaneId) (r : RecResult) (accepted : Bool) (w : LinkWrite) :
    s.Yields ((s.put w).haltUnwritten i r accepted) := by
  unfold State.haltUnwritten
  dsimp only
  split
  · exact .same rfl rfl
  · split
    · exact .same rfl rfl
    · refine State.Yields.trans ?_ (.lane (State.laneOnly_startSeq _ _ _ _ _ _))
      exact .same rfl rfl

theorem State.Yields.teardownRefused (s : State) (i : LaneId) (q : WriteSeq) (a : Addr) (b : List Byte) :
    s.Yields (s.teardownRefused i q a b) := .trans (.put _ _) (.popStep _ _ _)

theorem State.Yields.statusRefused (s : State) (i : LaneId) : s.Yields (s.statusRefused i) := by
  unfold State.statusRefused
  split
  all_goals try exact .refl _
  all_goals
    split
    · exact .haltUnwritten _ _ _ _ _
    · exact .teardownRefused _ _ _ _ _
    all_goals exact .refl _

theorem State.Yields.resumePointRefused (s : State) (i : LaneId) : s.Yields (s.resumePointRefused i) := by
  unfold State.resumePointRefused
  split
  all_goals try exact .refl _
  all_goals
    split
    · exact .haltUnwritten _ _ _ _ _
    · exact .teardownRefused _ _ _ _ _
    all_goals exact .refl _

theorem State.Yields.linkRefused (s : State) (i : LaneId) : s.Yields (s.linkRefused i) := by
  unfold State.linkRefused
  split
  all_goals try exact .refl _
  refine iteInduction (fun _ => iteInduction (fun _ => .same rfl rfl) fun _ => ?_) fun _ => .refl _
  refine State.Yields.trans ?_ (.failRecord _ _ _)
  exact .same rfl rfl

theorem State.Yields.writeRefused (s : State) (i : LaneId) : s.Yields (s.writeRefused i) := by
  unfold State.writeRefused
  split
  · exact .refl _
  · dsimp only
    split
    · exact .teardownRefused _ _ _ _ _
    · exact .statusRefused _ _
    · exact .statusRefused _ _
    · exact .resumePointRefused _ _
    · exact .linkRefused _ _
    · exact .goesOnRefused _ _ _ _ _

theorem FailStep.yields {s t : State} {i : LaneId} (h : FailStep s i t) : s.Yields t := by
  have dropAndFail (why : Reason) : s.Yields ((s.dropRead i).failRecord i why) :=
    (State.Yields.modLane _ _ _).trans (.failRecord _ _ _)
  cases h with
  | segment =>
    unfold State.segmentRefused
    split
    · exact .refl _
    · split
      · exact .refl _
      · exact (State.Yields.put _ _).trans (.timingUnitFails _ _)
  | compare =>
    unfold State.compareFailed
    split
    · exact .refl _
    · exact .timingUnitFails _ _
  | clips e =>
    unfold State.clipsFailed
    split
    · exact .refl _
    · exact iteInduction (fun _ => .mixFails _ _ _) fun _ => .refl _
  | output e =>
    unfold State.blockRefused
    dsimp only
    split
    · exact .refl _
    · split
      · exact iteInduction (fun _ => (State.Yields.put _ _).trans (.mixFails _ _ _)) fun _ => .refl _
      all_goals exact .refl _
  | block =>
    unfold State.blockFailed
    split
    · exact (State.Yields.modLane _ _ _).trans (.lane (State.laneOnly_judgeHead _ _))
    all_goals exact .refl _
  | stale =>
    exact iteInduction (fun _ => (State.Yields.modLane _ _ _).trans (.lane (State.laneOnly_prefetch _ _)))
      fun _ => .refl _
  | poll =>
    refine iteInduction (fun _ => iteInduction (fun _ => .modLane _ _ _) fun _ => ?_) fun _ =>
      iteInduction (fun _ => .modLane _ _ _) fun _ => .refl _
    exact (State.Yields.modLane _ _ _).trans (.failRecord _ _ _)
  | entry =>
    exact iteInduction (fun _ => iteInduction (fun _ => .modLane _ _ _) fun _ =>
      .lane (State.laneOnly_entryHalt _ _ _ _)) fun _ => .refl _
  | fetch =>
    unfold State.fetchFailed
    split
    · exact iteInduction (fun _ => .modLane _ _ _) fun _ => (State.Yields.modLane _ _ _).trans (.failRecord _ _ _)
    · exact iteInduction (fun _ => .modLane _ _ _) fun _ => (State.Yields.modLane _ _ _).trans (.failRecord _ _ _)
    · exact .refl _
  | intake =>
    exact iteInduction (fun _ => iteInduction (fun _ => .modLane _ _ _) fun _ => dropAndFail _) fun _ => .refl _
  | slot =>
    unfold State.slotRefused
    split
    · exact .refl _
    · exact (State.Yields.modLane _ _ _).trans (.slotPosted _ _ _)
  | write => exact .writeRefused _ _

theorem Fails.yields {s t : State} (h : Fails s t) : s.Yields t := by
  induction h with
  | refl => exact .refl _
  | step i h _ ih => exact (State.failOne_step h).yields.trans ih

/-! ## Timeouts (R152) -/

theorem exec_clipSampleReadFail {s : State} {i : LaneId} {e : MixId} (own : (s.mixEng e).owner = some i) :
    exec (.clipSampleReadFail e) s = .next (s.onLink i (s.clipsFailed e)) := by
  change Host.Outcome.next (s.onLinkOf (s.mixEng e).owner (s.clipsFailed e)) = _
  rw [own]
  rfl

theorem State.clipsTimeout_of_other {s : State} {i : LaneId} {e : MixId} (other : (s.mixEng e).owner ≠ some i) :
    s.clipsTimeout i e = s := if_neg other

/-- The clip reads of a lane that holds one Mix Engine time out as they fail. -/
theorem State.clipsTimeout_eq {s : State} {i : LaneId} {e : MixId} (own : (s.mixEng e).owner = some i)
    (one : ∀ f : MixId, f ≠ e → (s.mixEng f).owner ≠ some i) :
    (s.clipsTimeout i 0).clipsTimeout i 1 = s.onLink i (s.clipsFailed e) := by
  have failed : s.Yields (s.onLink i (s.clipsFailed e)) :=
    (FailStep.clips e own).yields.trans (State.onLink_fails s i _).yields
  obtain rfl | rfl := (show ∀ e : MixId, e = 0 ∨ e = 1 by decide) e
  · rw [State.clipsTimeout_of_other (e := 1), State.clipsTimeout, if_pos own]
    rw [State.clipsTimeout, if_pos own]
    exact fun own' => one 1 (by decide) (failed.mix 1 i own')
  · rw [State.clipsTimeout_of_other (one 0 (by decide)), State.clipsTimeout, if_pos own]

theorem readTimeouts (i : LaneId) (s : State) :
    (∃ t, exec (.readTimeout (.lane .entry i)) s = .next t ∧ exec (.entryReadFail i) s = .next t)
      ∧ (∃ t, exec (.readTimeout (.lane .record i)) s = .next t ∧ exec (.recordFetchReadFail i) s = .next t)
      ∧ (∃ t, exec (.readTimeout (.lane .poll i)) s = .next t ∧ exec (.gatePollFail i) s = .next t)
      ∧ (∃ t, exec (.readTimeout (.lane .intake i)) s = .next t ∧ exec (.intakeReadFail i) s = .next t)
      ∧ (s.timing.owner = some i →
        ∃ t, exec (.readTimeout (.lane .compare i)) s = .next t ∧ exec .compareReadFail s = .next t)
      ∧ (∀ e : MixId, (s.mixEng e).owner = some i → (∀ f : MixId, f ≠ e → (s.mixEng f).owner ≠ some i) →
        ∃ t, exec (.readTimeout (.lane .clipSamples i)) s = .next t ∧ exec (.clipSampleReadFail e) s = .next t)
      ∧ ((s.lane i).pf.outstanding ≠ .stale →
        ∃ t, exec (.readTimeout (.lane .block i)) s = .next t ∧ exec (.blockReadFail i) s = .next t)
      ∧ ((s.lane i).pf.outstanding = .stale →
        ∃ t, exec (.readTimeout (.lane .block i)) s = .next t ∧ exec (.staleReadEnd i) s = .next t)
      ∧ ∃ t, exec (.readTimeout .inspectEntry) s = .next t ∧ exec .inspectEntryReadFail s = .next t := by
  refine ⟨⟨_, rfl, rfl⟩, ⟨_, rfl, rfl⟩, ⟨_, rfl, rfl⟩, ⟨_, rfl, rfl⟩, fun own => ⟨_, ?_, rfl⟩,
    fun e own one => ⟨_, ?_, exec_clipSampleReadFail own⟩, fun live => ⟨_, ?_, rfl⟩, fun stale => ⟨_, ?_, rfl⟩,
    ⟨_, rfl, rfl⟩⟩
  · exact congrArg Host.Outcome.next (if_pos own)
  · exact congrArg Host.Outcome.next (State.clipsTimeout_eq own one)
  · exact congrArg (fun t => Host.Outcome.next (s.onLink i t)) (if_neg live)
  · exact congrArg (fun t => Host.Outcome.next (s.onLink i t)) (if_pos stale)

/-! ## What a lane has in flight (R167) -/

theorem failedWhen_eq_none {b : Bool} {s : State} : failedWhen b s = none ↔ b = false := by
  cases b <;> simp [failedWhen]

/-- The units that engines run for lane i have no transfer in flight. -/
def State.UnitsSilent (s : State) (i : LaneId) : Prop :=
  ¬(s.timing.owner = some i ∧ (s.timing.unit = .segWrite ∨ s.timing.unit = .compare))
    ∧ ∀ e : MixId, (s.mixEng e).owner = some i → (s.mixEng e).phase = .idle

theorem State.failUnit_eq_none (s : State) (i : LaneId) : s.failUnit i = none ↔ s.UnitsSilent i := by
  have phase (p : MixPhase) : p ≠ .reading ∧ p ≠ .writing ↔ p = .idle := by cases p <;> simp
  simp only [State.failUnit, Option.or_eq_none_iff, failedWhen_eq_none, Bool.and_eq_false_iff,
    decide_eq_false_iff_not, State.UnitsSilent, Fin.forall_fin_two, ← phase]
  tauto

/-- Lane i makes no read of its own. -/
def Lane.ReadsSilent (l : Lane) : Prop :=
  l.pf.outstanding = .none ∧ l.gate.poll ≠ .outstanding ∧ l.gate.stale = false

theorem State.failRead_eq_none (s : State) (i : LaneId) :
    s.failRead i = none ↔ (s.lane i).ReadsSilent ∧ ∀ r, (s.lane i).io ≠ .read r true := by
  unfold State.failRead Lane.ReadsSilent
  cases (s.lane i).pf.outstanding with
  | live off k => simp
  | stale => simp
  | none =>
    by_cases poll : (s.lane i).gate.poll = .outstanding ∨ (s.lane i).gate.stale = true
    · rw [if_pos poll]
      simp only [reduceCtorEq, true_and, false_iff, not_and]
      intro ⟨quiet, still⟩
      simp [quiet, still] at poll
    · rw [if_neg poll]
      obtain ⟨quiet, still⟩ := not_or.mp poll
      cases (s.lane i).io with
      | idle => simp [quiet, still]
      | seq q => simp [quiet, still]
      | read r issued => cases issued <;> cases r <;> simp [quiet, still]

theorem Lane.headWrite_eq_none (l : Lane) : l.headWrite = none ↔
    ∀ q k a b rest, l.io = .seq q → q.begun = true → q.steps ≠ .write k a b :: rest := by
  rw [Option.eq_none_iff_forall_ne_some]
  constructor
  · exact fun none q k a b rest io begun steps => none _ ((l.headWrite_iff q k a b).mpr ⟨io, begun, rest, steps⟩)
  · rintro no ⟨q, k, a, b⟩ head
    obtain ⟨io, begun, rest, steps⟩ := (l.headWrite_iff q k a b).mp head
    exact no q k a b rest io begun steps

theorem State.failWrite_eq_none (s : State) (i : LaneId) :
    s.failWrite i = none ↔ (s.lane i).slot = none ∧ (s.lane i).headWrite = none := by
  simp only [State.failWrite, Option.or_eq_none_iff, failedWhen_eq_none, Option.isSome_eq_false_iff,
    Option.isNone_iff_eq_none]

/-- Nothing of the lane's can fail exactly when nothing of it is in flight. -/
theorem State.failOne_eq_none (s : State) (i : LaneId) : s.failOne i = none ↔ s.NothingAsked i := by
  simp only [State.failOne, Option.or_eq_none_iff, State.failUnit_eq_none, State.failRead_eq_none,
    State.failWrite_eq_none, Lane.headWrite_eq_none, State.NothingAsked, State.UnitsSilent, Lane.ReadsSilent]
  tauto

/-! ## How they fail -/

theorem State.failUpTo_of_none {s : State} {i : LaneId} (none : s.failOne i = none) (n : Nat) : s.failUpTo n i = s := by
  cases n with
  | zero => rfl
  | succ n => rw [State.failUpTo, none]

theorem State.failUpTo_of_some {s t : State} {i : LaneId} (some : s.failOne i = some t) (n : Nat) :
    s.failUpTo (n + 1) i = t.failUpTo n i := by
  rw [State.failUpTo, some]

theorem State.failBound_ge (s : State) (i : LaneId) : 64 ≤ s.failBound i := by
  unfold State.failBound
  split
  · exact Nat.le_add_right _ _
  · exact Nat.le_refl _
  · exact Nat.le_refl _

section
variable {s t : State} (off : s.bus.busMaster = false)
include off

theorem State.onLink_disabled (i : LaneId) : s.onLink i t = t.failUpTo (t.failBound i) i := by
  rw [State.onLink, off]
  rfl

theorem State.onLink_of_nothing {i : LaneId} (nothing : t.NothingAsked i) : s.onLink i t = t := by
  rw [State.onLink_disabled off, State.failUpTo_of_none ((t.failOne_eq_none i).mpr nothing)]

theorem State.onLinkInspect_of_none (job : t.port.job = none) : s.onLinkInspect t = t := by
  simp [State.onLinkInspect, off, State.failInspect, State.inspectReadFailed, State.inspectRefused, job]

theorem State.onLinkInspect_of_some {j : InspectJob} (job : t.port.job = some j) : s.onLinkInspect t =
    { t with
      port := { t.port with lastResult := .inspectFailed, job := none }
      wire := t.wire ++ (match j.phase with
        | .writing a b => [.torn a b]
        | .entryRead => []) } := by
  cases phase : j.phase <;>
    simp [State.onLinkInspect, off, State.failInspect, State.inspectReadFailed, State.inspectRefused, job, phase,
      State.endInspect, State.put]

end

end Sys2Proof.Machine
end

section
/-! While bus mastering is disabled: the command that says how a transfer fails, and what is put on the link (R167). -/

namespace Sys2Proof.Machine

open Sys2Proof

/-! ## The failing commands -/

/-- f is one of the commands by which a transfer of lane i's can fail in s, and u is what it does before what it asks for
fails in its turn. -/
def FailsBy (s u : State) (i : LaneId) : Prop := ∃ f, f ∈ failuresOf s i ∧ exec f s = .next (s.onLink i u)

section
variable {s : State} {i : LaneId}

/-- The failures that belong to the lane itself. -/
theorem FailsBy.own {f : Instr} {u : State} (mem : f ∈ [.entryReadFail i, .recordFetchReadFail i, .gatePollFail i,
      .intakeReadFail i, .blockReadFail i, .staleReadEnd i, .noticeSlotWriteRefused i])
    (eq : exec f s = .next (s.onLink i u)) : FailsBy s u i := by
  refine ⟨f, ?_, eq⟩
  unfold failuresOf
  exact List.mem_append_left _ (List.mem_append_left _ (List.mem_append_left _ mem))

theorem FailsBy.timing {f : Instr} {u : State} (own : s.timing.owner = some i)
    (mem : f ∈ [.segmentWriteRefused, .compareReadFail]) (eq : exec f s = .next (s.onLink i u)) : FailsBy s u i := by
  refine ⟨f, ?_, eq⟩
  unfold failuresOf
  rw [if_pos own]
  exact List.mem_append_left _ (List.mem_append_left _ (List.mem_append_right _ mem))

theorem FailsBy.mix {f : Instr} {u : State} {e : MixId} (own : (s.mixEng e).owner = some i)
    (mem : f ∈ [.clipSampleReadFail e, .mixOutputWriteRefused e]) (eq : exec f s = .next (s.onLink i u)) :
    FailsBy s u i := by
  refine ⟨f, ?_, eq⟩
  unfold failuresOf
  refine List.mem_append_left _ (List.mem_append_right _ (List.mem_flatMap.mpr ⟨e, List.mem_filter.mpr ⟨?_, ?_⟩, mem⟩))
  · exact (show ∀ e : MixId, e ∈ [0, 1] by decide) e
  · exact decide_eq_true own

theorem FailsBy.write {f : Instr} {u : State} {q : WriteSeq} {k : WriteKind} {a : Addr} {b : List Byte}
    (head : (s.lane i).headWrite = some (q, k, a, b)) (refusal : q.kind.refusal k i = some f)
    (eq : exec f s = .next (s.onLink i u)) : FailsBy s u i := by
  refine ⟨f, ?_, eq⟩
  unfold failuresOf
  refine List.mem_append_right _ ?_
  rw [head]
  simp [refusal]

end

/-- The command that says a write of a sequence is refused does what the refusal of the head write does. -/
theorem exec_refusal {s : State} {i : LaneId} {q : WriteSeq} {k : WriteKind} {a : Addr} {b : List Byte} {f : Instr}
    (head : (s.lane i).headWrite = some (q, k, a, b)) (refusal : q.kind.refusal k i = some f) :
    exec f s = .next (s.onLink i (s.writeRefused i)) := by
  have next {u : State} (same : u = s.writeRefused i) :
      Host.Outcome.next (s.onLink i u) = (.next (s.onLink i (s.writeRefused i)) : Host.Outcome State Fault Refusal) :=
    same ▸ rfl
  cases kind : q.kind <;> cases k <;> rw [kind] at refusal <;> cases refusal
  all_goals
    refine next ?_
    simp [State.writeRefused, State.statusRefused, State.resumePointRefused, State.restRefused, State.linkRefused,
      State.stopRefused, State.teardownWriteRefused, head, kind]

theorem State.failUnit_by {s u : State} {i : LaneId} (h : s.failUnit i = some u) : FailsBy s u i := by
  simp only [State.failUnit, Option.or_eq_some_iff] at h
  have timing {unit : TimingUnit} {t u : State}
      (fails : failedWhen (decide (s.timing.owner = some i) && decide (s.timing.unit = unit)) t = some u) :
      s.timing.owner = some i ∧ s.unitOwner unit = some i ∧ u = t := by
    obtain ⟨both, rfl⟩ := failedWhen_some fails
    simp only [Bool.and_eq_true, decide_eq_true_iff] at both
    exact ⟨both.1, State.unitOwner_eq both.2 both.1, rfl⟩
  have mix {e : MixId} {p : MixPhase} {t u : State}
      (fails : failedWhen (decide ((s.mixEng e).owner = some i) && decide ((s.mixEng e).phase = p)) t = some u) :
      (s.mixEng e).owner = some i ∧ u = t := by
    obtain ⟨both, rfl⟩ := failedWhen_some fails
    simp only [Bool.and_eq_true, decide_eq_true_iff] at both
    exact ⟨both.1, rfl⟩
  have clips {e : MixId} {u : State} (fails : failedWhen (decide ((s.mixEng e).owner = some i)
      && decide ((s.mixEng e).phase = .reading)) (s.clipsFailed e) = some u) : FailsBy s u i := by
    obtain ⟨own, rfl⟩ := mix fails
    exact .mix own (.head _) (exec_clipSampleReadFail own)
  have output {e : MixId} {u : State} (fails : failedWhen (decide ((s.mixEng e).owner = some i)
      && decide ((s.mixEng e).phase = .writing)) (s.blockRefused e) = some u) : FailsBy s u i := by
    obtain ⟨own, rfl⟩ := mix fails
    refine .mix own (f := .mixOutputWriteRefused e) (.tail _ (.head _)) ?_
    exact congrArg (fun o => Host.Outcome.next (s.onLinkOf o (s.blockRefused e))) own
  obtain h | ⟨-, h | ⟨-, h | ⟨-, h | ⟨-, h | ⟨-, h⟩⟩⟩⟩⟩ := h
  · obtain ⟨own, unit, rfl⟩ := timing h
    refine .timing own (f := .segmentWriteRefused) (.head _) ?_
    exact congrArg (fun o => Host.Outcome.next (s.onLinkOf o s.segmentRefused)) unit
  · obtain ⟨own, unit, rfl⟩ := timing h
    refine .timing own (f := .compareReadFail) (.tail _ (.head _)) ?_
    exact congrArg (fun o => Host.Outcome.next (s.onLinkOf o s.compareFailed)) unit
  · exact clips h
  · exact output h
  · exact clips h
  · exact output h

theorem State.failRead_by {s u : State} {i : LaneId} (h : s.failRead i = some u) : FailsBy s u i := by
  unfold State.failRead at h
  split at h
  · cases h
    exact .own (f := .blockReadFail i) (by simp) rfl
  · cases h
    exact .own (f := .staleReadEnd i) (by simp) rfl
  · split at h
    · cases h
      exact .own (f := .gatePollFail i) (by simp) rfl
    · split at h <;> cases h
      · exact .own (f := .entryReadFail i) (by simp) rfl
      · exact .own (f := .intakeReadFail i) (by simp) rfl
      · exact .own (f := .recordFetchReadFail i) (by simp) rfl
      · exact .own (f := .recordFetchReadFail i) (by simp) rfl

theorem State.failOne_by {s u : State} {i : LaneId} (h : s.failOne i = some u)
    (sayable : ∀ q k a b, (s.lane i).headWrite = some (q, k, a, b) → q.kind.refusal k i ≠ none) : FailsBy s u i := by
  simp only [State.failOne, State.failWrite, Option.or_eq_some_iff] at h
  obtain (h | ⟨-, h⟩) | ⟨-, h | ⟨-, h⟩⟩ := h
  · exact State.failUnit_by h
  · exact State.failRead_by h
  · obtain ⟨-, rfl⟩ := failedWhen_some h
    exact .own (f := .noticeSlotWriteRefused i) (by simp) rfl
  · obtain ⟨busy, rfl⟩ := failedWhen_some h
    obtain ⟨⟨q, k, a, b⟩, head⟩ := Option.isSome_iff_exists.mp busy
    obtain ⟨f, refusal⟩ := Option.ne_none_iff_exists'.mp (sayable q k a b head)
    exact .write head refusal (exec_refusal head refusal)

/-! ## What is put on the link -/

theorem State.Puts.torn {s t : State} (puts : s.Puts t) (off : s.bus.busMaster = false) :
    ∃ ws, t.wire = s.wire ++ ws ∧ ∀ w ∈ ws, ∃ a b, w = .torn a b :=
  have ⟨ws, wire, torn⟩ := puts
  ⟨ws, wire, torn off⟩

/-- With nothing in flight no write ends. -/
theorem exec_acceptsWrite {c : Instr} {s : State} (accepts : acceptsWrite c) (off : s.bus.busMaster = false)
    (nothing : ∀ i, s.NothingAsked i) (job : s.port.job = none) : exec c s = .next s := by
  have still (i : LaneId) : s.onLink i s = s := State.onLink_of_nothing off (nothing i)
  obtain rfl | ⟨e, rfl⟩ | ⟨i, rfl⟩ | ⟨i, rfl⟩ | rfl := accepts
  · have idle : s.unitOwner .segWrite = none := by
      by_contra own
      obtain ⟨i, own⟩ := Option.ne_none_iff_exists'.mp own
      have unit : s.timing.unit = .segWrite := by
        unfold State.unitOwner at own
        split at own
        · assumption
        · cases own
      obtain ⟨-, -, -, -, -, -, no, -⟩ := nothing i
      exact no ⟨State.owner_of_unitOwner own, .inl unit⟩
    change Host.Outcome.next (s.onLinkOf (s.unitOwner .segWrite) s.segmentWritten) = _
    rw [State.segmentWritten, idle]
    rfl
  · change Host.Outcome.next (s.onLinkOf (s.mixEng e).owner (s.blockWritten e)) = _
    have same : s.blockWritten e = s := by
      unfold State.blockWritten
      dsimp only
      split
      · rfl
      next i own =>
        obtain ⟨-, -, -, -, -, -, -, idle⟩ := nothing i
        split
        · rw [if_neg (by rw [idle e own]; decide)]
        all_goals rfl
    rw [same]
    cases (s.mixEng e).owner with
    | none => rfl
    | some i => exact congrArg _ (still i)
  · have head : (s.lane i).headWrite = none := by
      obtain ⟨-, head, -⟩ := nothing i
      exact (s.lane i).headWrite_eq_none.mpr head
    change Host.Outcome.next (s.onLink i (s.writeAccepted i)) = _
    rw [State.writeAccepted, head]
    exact congrArg _ (still i)
  · have slot : (s.lane i).slot = none := by
      obtain ⟨-, -, slot, -⟩ := nothing i
      exact slot
    change Host.Outcome.next (s.onLink i (s.slotAccepted i)) = _
    rw [State.slotAccepted, slot]
    exact congrArg _ (still i)
  · change Host.Outcome.next s.inspectWritten = _
    rw [State.inspectWritten, job]

/-- R148, R167: no MSI is put on the link. -/
theorem State.wire_writeMask {s : State} (off : s.bus.busMaster = false) (v : BitVec 32) :
    (s.writeMask v).wire = s.wire := by
  unfold State.writeMask State.askMsi
  dsimp only
  split
  · rfl
  · rw [off, Bool.and_false, if_neg Bool.false_ne_true]

theorem State.tornAtReset_torn (s : State) : ∀ w ∈ s.tornAtReset, ∃ a b, w = .torn a b := by
  intro w mem
  obtain ⟨i, mem⟩ | mem | ⟨e, mem⟩ | mem := (s.mem_tornAtReset w).mp mem
  · obtain ⟨q, k, a, b, rest, -, -, -, torn⟩ | ⟨x, -, torn⟩ := (Lane.mem_tornWrites _ _ _ _).mp mem
    · exact ⟨_, _, torn⟩
    · exact ⟨_, _, torn⟩
  · obtain ⟨i, c, -, -, -, torn⟩ := (State.mem_tornSegment _ _).mp mem
    exact ⟨_, _, torn⟩
  · obtain ⟨i, c, off, k, samples, rest, -, -, -, -, -, torn⟩ := (State.mem_tornBlock _ _ _).mp mem
    exact ⟨_, _, torn⟩
  · obtain ⟨j, a, b, -, -, torn⟩ := (CmdPort.mem_tornImage _ _).mp mem
    exact ⟨_, _, torn⟩

theorem exec_putsTorn {c : Instr} {s t : State} (off : s.bus.busMaster = false) (nothing : ∀ i, s.NothingAsked i)
    (job : s.port.job = none) (h : exec c s = .next t) :
    ∃ ws, t.wire = s.wire ++ ws ∧ ∀ w ∈ ws, ∃ a b, w = .torn a b := by
  cases CommandStep.of_exec h with
  | moves m => exact m.puts.torn off
  | written a b accepts m =>
    rw [exec_acceptsWrite accepts off nothing job] at h
    injection h with same
    exact same ▸ (State.Puts.same rfl).torn off
  | woken clear m => exact State.Puts.torn (s := { s with dev := .run }) m.puts off
  | held d keeps => exact (State.Puts.same rfl).torn off
  | mask v write => exact (State.Puts.same (State.wire_writeMask off v)).torn off
  | dirBase half v write =>
    rw [State.writeDirBase_eq]
    exact (State.Puts.same rfl).torn off
  | reset device => exact ⟨s.tornAtReset, rfl, s.tornAtReset_torn⟩
  | functionReset function => exact ⟨s.tornAtReset, rfl, s.tornAtReset_torn⟩

end Sys2Proof.Machine
end

section
/-! A halt while bus mastering is disabled: each of its writes fails in its turn, and the lane is HALTED with its notice
handed over (R144, R145, R151, R156, R167); with it O36. -/

namespace Sys2Proof.Machine

open Sys2Proof

/-! ## A lane whose own sequence alone is in flight -/

/-- Nothing of lane i's is in flight but what its own transfer and its notice slot may ask for. -/
structure State.SeqOnly (s : State) (i : LaneId) (l : Lane) : Prop where
  units : s.UnitsSilent i
  reads : l.ReadsSilent

section
variable {s : State} {i : LaneId} {l : Lane} (only : s.SeqOnly i l)
include only

theorem State.SeqOnly.failWrite (noRead : ∀ r, l.io ≠ .read r true) :
    (s.setLane i l).failOne i = (s.setLane i l).failWrite i := by
  have units : (s.setLane i l).failUnit i = none := ((s.setLane i l).failUnit_eq_none i).mpr only.units
  have reads : (s.setLane i l).failRead i = none := by
    rw [State.failRead_eq_none, State.lane_setLane_same]
    exact ⟨only.reads, noRead⟩
  rw [State.failOne, units, reads]
  rfl

/-- The notice slot's write is refused. -/
theorem State.SeqOnly.failSlot {w : SlotWrite} (noRead : ∀ r, l.io ≠ .read r true) (slot : l.slot = some w) :
    (s.setLane i l).failOne i = some ((s.setLane i l).slotRefused i) := by
  rw [only.failWrite noRead, State.failWrite, State.lane_setLane_same, slot]
  rfl

/-- The head write of the sequence is refused. -/
theorem State.SeqOnly.failHead {q : WriteSeq} {k : WriteKind} {a : Addr} {b : List Byte} {rest : List SeqStep}
    (io : l.io = .seq q) (begun : q.begun = true) (steps : q.steps = .write k a b :: rest) (slot : l.slot = none) :
    (s.setLane i l).failOne i = some ((s.setLane i l).writeRefused i) := by
  have head := (l.headWrite_iff q k a b).mpr ⟨io, begun, rest, steps⟩
  rw [only.failWrite (by rw [io]; exact nofun), State.failWrite, State.lane_setLane_same, slot, head]
  rfl

/-- At rest, nothing fails any more. -/
theorem State.SeqOnly.failNone (io : l.io = .idle) (slot : l.slot = none) (n : Nat) :
    (s.setLane i l).failUpTo n i = s.setLane i l := by
  refine State.failUpTo_of_none ?_ n
  rw [only.failWrite (by rw [io]; exact nofun), State.failWrite_eq_none, State.lane_setLane_same]
  exact ⟨slot, by rw [Lane.headWrite, io]⟩

end

theorem State.NothingAsked.seqOnly {s : State} {i : LaneId} (h : s.NothingAsked i) : s.SeqOnly i (s.lane i) := by
  obtain ⟨-, -, -, block, poll, stale, units, mix⟩ := h
  exact ⟨⟨units, mix⟩, block, poll, stale⟩

/-! ## A halt's steps fail one after another -/

/-- The kinds of sequence that end in HALTED. -/
def SeqKind.Halts (k : SeqKind) : Prop := k = .entryHalt ∨ k = .rehalt

section
variable {s : State} {i : LaneId} {l : Lane} {k : SeqKind} (halts : k.Halts)
include halts

theorem SeqKind.Halts.not_teardown : k ≠ .teardown := by
  obtain rfl | rfl := halts <;> decide

/-- The sequence of a halt, in a lane that retires. -/
theorem SeqKind.Halts.eventEnded {steps : List SeqStep} (state : l.state = .retiring) (kept hold : Bool) :
    l.eventEnded { kind := k, steps := steps, begun := true, failed := false } kept hold =
      { l with state := .halted, io := .idle } := by
  have ab : l.state ≠ .abandoning := by rw [state]; decide
  rw [Lane.eventEnded, if_neg ab]
  obtain rfl | rfl := halts <;> rfl

/-- The lane of a halt, with the steps that are left. -/
def Lane.halting (l : Lane) (k : SeqKind) (steps : List SeqStep) : Lane :=
  { l with
    state := .retiring, haltReason := .hostAccess
    io := .seq { kind := k, steps := steps, begun := true, failed := false } }

/-- The sequence of a halt at its notice. -/
def SeqKind.atNotice (k : SeqKind) (x : Notice) : WriteSeq :=
  { kind := k, steps := [.notice x], begun := true, failed := false }

theorem SeqKind.Halts.noticeHanded (slot : l.slot = none) (x : Notice) (pend hold : Bool) :
    (l.halting k [.notice x]).noticeHanded (k.atNotice x) x pend hold =
      if pend then { l with state := .halted, haltReason := .hostAccess, io := .idle, deferred := some x }
      else { l.halting k [.notice x] with slot := some { notice := x, own := true, setsBit := true } } := by
  have free : ¬ (l.halting k [.notice x]).slot ≠ none := not_not_intro slot
  have kind : ¬ (k.atNotice x).kind = .teardown := halts.not_teardown
  rw [Lane.noticeHanded, if_neg free, if_neg kind, SeqKind.atNotice, halts.eventEnded rfl]
  rfl

theorem State.runSeq_halting (only : s.SeqOnly i l) (slot : l.slot = none) (x : Notice) (n : Nat) :
    ((s.setLane i (l.halting k [.notice x])).runSeq i).failUpTo (n + 1) i =
      if s.pend.getLsbD i.val then
        s.setLane i { l with
          state := .halted, haltReason := .hostAccess, io := .idle, deferred := some x }
      else (s.noticePosted i { notice := x, own := true, setsBit := true } []).setLane i
        { l with state := .halted, haltReason := .hostAccess, io := .idle } := by
  have io : ((s.setLane i (l.halting k [.notice x])).lane i).io = .seq (k.atNotice x) := by
    rw [State.lane_setLane_same]
    rfl
  have pend : (s.setLane i (l.halting k [.notice x])).pend = s.pend := rfl
  rw [State.runSeq_of_notice io rfl rfl, State.handNotice_eq, State.lane_setLane_same, State.setLane_setLane, pend,
    halts.noticeHanded slot]
  split
  · have halted : s.SeqOnly i
        { l with state := .halted, haltReason := .hostAccess, io := .idle, deferred := some x } :=
      ⟨only.units, only.reads⟩
    exact halted.failNone rfl slot (n + 1)
  · have waiting : s.SeqOnly i
        { l.halting k [.notice x] with slot := some { notice := x, own := true, setsBit := true } } :=
      ⟨only.units, only.reads⟩
    have failed : (Lane.slotFailed
        { l.halting k [.notice x] with slot := some { notice := x, own := true, setsBit := true } } true) =
          { l.halting k [.notice x] with slot := some { notice := x, own := true, setsBit := true } } := by
      refine Lane.slotFailed_eq fun _ q own => ?_
      cases own
      exact halts.not_teardown
    rw [State.failUpTo_of_some (waiting.failSlot nofun rfl) n,
      State.slotRefused_eq (by rw [State.lane_setLane_same]), State.lane_setLane_same, State.noticePosted_setLane,
      State.setLane_setLane, failed, State.slotEnded_of_own (q := k.atNotice x) rfl halts.not_teardown,
      SeqKind.atNotice, halts.eventEnded rfl]
    have halted : (s.noticePosted i { notice := x, own := true, setsBit := true } []).SeqOnly i
        { l.halting k [.notice x] with state := .halted, io := .idle, slot := none } := ⟨only.units, only.reads⟩
    refine (halted.failNone rfl rfl n).trans (congrArg (State.setLane _ i) ?_)
    rw [← slot]
    rfl

/-- The refused rest state of a halt lets the sequence go on (R156). -/
theorem State.writeRefused_halting (s : State) (i : LaneId) (l : Lane) (a : Addr) (b : List Byte)
    (rest : List SeqStep) :
    (s.setLane i (l.halting k (.write (.restState .halted) a b :: rest))).writeRefused i =
      ((s.put (.torn a b)).setLane i (l.halting k rest)).runSeq i := by
  have head : ((s.setLane i (l.halting k (.write (.restState .halted) a b :: rest))).lane i).headWrite =
      some ({ kind := k, steps := .write (.restState .halted) a b :: rest, begun := true, failed := false },
        .restState .halted, a, b) := by
    rw [State.lane_setLane_same]
    rfl
  have goesOn : ((State.put (s.setLane i (l.halting k (.write (.restState .halted) a b :: rest))) (.torn a b)).modLane i
      fun m => { m with haltReason := .hostAccess }).popStep i
        { kind := k, steps := .write (.restState .halted) a b :: rest, begun := true, failed := false } =
      ((s.put (.torn a b)).setLane i (l.halting k rest)).runSeq i := by
    have put : State.put (s.setLane i (l.halting k (.write (.restState .halted) a b :: rest))) (.torn a b) =
        (s.put (.torn a b)).setLane i (l.halting k (.write (.restState .halted) a b :: rest)) := rfl
    rw [put]
    simp only [State.popStep, State.modLane_eq, State.lane_setLane_same, State.setLane_setLane]
    rfl
  rw [State.writeRefused, head]
  obtain rfl | rfl := halts
  · exact goesOn
  · exact goesOn

end

/-- What is put on the link before a halt's own writes is put there by the state it starts from. -/
theorem State.haltedOffLink_put (s : State) (i : LaneId) (l : Lane) (x : Notice) (w : LinkWrite) :
    (s.put w).haltedOffLink i l x [] = s.haltedOffLink i l x [w] := by
  simp only [State.haltedOffLink, State.put, List.append_nil, List.append_assoc]

/-- The halt of a lane that has nothing else in flight, off the link. -/
theorem State.failUpTo_halt {s : State} {i : LaneId} {l : Lane} {k : SeqKind} (halts : k.Halts) (only : s.SeqOnly i l)
    (slot : l.slot = none) (x : Notice) (n : Nat) :
    ((s.setLane i (l.halting k
      ((if l.restLast = .halted then []
        else [.write (.restState .halted) (restStateAddr s.dirBase i) (restStateBytes .halted)])
          ++ [.notice x]))).runSeq i).failUpTo (n + 2) i = s.haltedOffLink i l x [] := by
  by_cases rest : l.restLast = .halted
  · rw [if_pos rest, List.nil_append, State.runSeq_halting halts only slot x (n + 1), State.haltedOffLink, if_pos rest]
    simp only [List.append_nil]
  · rw [if_neg rest, List.singleton_append]
    have waiting : s.SeqOnly i (l.halting k
        [.write (.restState .halted) (restStateAddr s.dirBase i) (restStateBytes .halted), .notice x]) :=
      ⟨only.units, only.reads⟩
    have stands : (s.setLane i (l.halting k
        [.write (.restState .halted) (restStateAddr s.dirBase i) (restStateBytes .halted), .notice x])).runSeq i =
          s.setLane i (l.halting k
            [.write (.restState .halted) (restStateAddr s.dirBase i) (restStateBytes .halted), .notice x]) := by
      refine State.runSeq_of_waiting fun q io => .inr ?_
      rw [State.lane_setLane_same] at io
      cases io
      exact ⟨_, _, _, _, rfl⟩
    have put : (s.put (.torn (restStateAddr s.dirBase i) (restStateBytes .halted))).SeqOnly i l :=
      ⟨only.units, only.reads⟩
    rw [stands, State.failUpTo_of_some (waiting.failHead rfl rfl rfl slot) (n + 1), State.writeRefused_halting halts,
      State.runSeq_halting halts put slot x n, State.haltedOffLink, if_neg rest]
    simp only [List.append_nil, State.put]
    rfl

/-- A halt starts in a lane that has nothing else in flight, off the link. -/
theorem State.failUpTo_startHalt {s t : State} {i : LaneId} {l : Lane} {k : SeqKind} (halts : k.Halts)
    (only : s.SeqOnly i l) (slot : l.slot = none) (why : l.haltReason = .hostAccess)
    (rest : (t.lane i).restLast = l.restLast) (base : t.dirBase = s.dirBase) (x : Notice) (n : Nat) :
    ((s.setLane i l).startSeq i .retiring k (restStep t i .halted ++ [.notice x]) true).failUpTo (n + 2) i =
      s.haltedOffLink i l x [] := by
  rw [State.startSeq_setLane, ← State.failUpTo_halt halts only slot x n, restStep, rest, base, Lane.halting, ← why]

/-- More transfers may fail than a halt has. -/
theorem State.failBound_eq (s : State) (i : LaneId) : ∃ n, s.failBound i = n + 2 + 1 :=
  have ⟨n, bound⟩ := Nat.exists_eq_add_of_le' (s.failBound_ge i)
  ⟨n + 61, bound⟩

/-! ## START off the link -/

/-- The lane of a START, whose entry read has been issued. -/
def Lane.started (l : Lane) : Lane :=
  { l with cur := none, haltReason := .none, state := .fetching, io := .read .entry true }

/-- The lane of a START whose entry read has failed. -/
def Lane.unstarted (l : Lane) : Lane := { l.started with haltReason := .hostAccess, next := none, cur := none }

/-- R95, R142: the notice of an entry read that has failed. -/
def entryNotice : Notice :=
  { addr := 0, tag := 0, outcome := .failed, reason := .hostAccess, notes := 0, progress := 0, rest := .halted }

theorem State.startLane_eq {s : State} {i : LaneId} (hold : s.hold = false) :
    s.startLane i = s.setLane i (s.lane i).started := by
  rw [State.startLane, State.startRead_eq, State.modLane_eq, State.lane_setLane_same, State.setLane_setLane,
    State.hold_setLane, hold]
  rfl

/-- The entry read of a START fails when nothing else of the lane's is in flight. -/
theorem State.failOne_started {s : State} {i : LaneId} (only : s.SeqOnly i (s.lane i)) :
    (s.setLane i (s.lane i).started).failOne i = some ((s.setLane i (s.lane i).started).entryFailed i) := by
  have units : (s.setLane i (s.lane i).started).failUnit i = none :=
    ((s.setLane i (s.lane i).started).failUnit_eq_none i).mpr only.units
  have reads : (s.setLane i (s.lane i).started).failRead i =
      some ((s.setLane i (s.lane i).started).entryFailed i) := by
    obtain ⟨block, poll, stale⟩ := only.reads
    have quiet : ¬ ((s.lane i).started.gate.poll = .outstanding ∨ (s.lane i).started.gate.stale = true) :=
      not_or.mpr ⟨poll, Bool.eq_false_iff.mp stale⟩
    have block : (s.lane i).started.pf.outstanding = .none := block
    rw [State.failRead, State.lane_setLane_same, block]
    exact if_neg quiet
  rw [State.failOne, units, reads]
  rfl

theorem State.entryFailed_started {s : State} {i : LaneId} (hold : s.hold = false) :
    (s.setLane i (s.lane i).started).entryFailed i = (s.setLane i (s.lane i).unstarted).startSeq i .retiring .entryHalt
      (restStep (s.setLane i (s.lane i).started) i .halted ++ [.notice entryNotice]) true := by
  have lane := s.lane_setLane_same i (s.lane i).started
  have io : ((s.setLane i (s.lane i).started).lane i).io = .read .entry true := by rw [lane]; rfl
  have state : ((s.setLane i (s.lane i).started).lane i).state ≠ .abandoning := by rw [lane]; exact nofun
  rw [State.entryFailed, if_pos io, if_neg state, State.entryHalt_eq, lane, State.setLane_setLane,
    State.hold_setLane, hold]
  rfl

/-- START off the link: its entry read fails at once, and the lane halts on it. -/
theorem State.startLane_offLink {s : State} {i : LaneId} (off : s.bus.busMaster = false) (nothing : s.NothingAsked i)
    (run : s.dev = .run) : s.onLink i (s.startLane i) =
      s.haltedOffLink i { s.lane i with cur := none, next := none } entryNotice [] := by
  have hold : s.hold = false := by simp [State.hold, run]
  have only := nothing.seqOnly
  have halting : s.SeqOnly i (s.lane i).unstarted := ⟨only.units, only.reads⟩
  obtain ⟨-, -, slot, -⟩ := nothing
  have rest : ((s.setLane i (s.lane i).started).lane i).restLast = (s.lane i).unstarted.restLast := by
    rw [State.lane_setLane_same]
    rfl
  obtain ⟨n, bound⟩ := (s.setLane i (s.lane i).started).failBound_eq i
  rw [State.startLane_eq hold, State.onLink_disabled off, bound, State.failUpTo_of_some (State.failOne_started only),
    State.entryFailed_started hold, State.failUpTo_startHalt (.inl rfl) halting slot rfl rest rfl]
  rfl

/-! ## A retirement off the link -/

/-- The refused result fields or status of a retirement halt the lane (R154). -/
theorem State.writeRefused_status {s : State} {i : LaneId} {q : WriteSeq} {k : WriteKind} {a : Addr} {b : List Byte}
    {r : RecResult} (head : (s.lane i).headWrite = some (q, k, a, b)) (kind : q.kind = .retire r)
    (status : k = .results ∨ k = .status) : s.writeRefused i = (s.put (.torn a b)).haltUnwritten i r false := by
  obtain rfl | rfl := status <;> simp [State.writeRefused, State.statusRefused, head, kind]

theorem statusSteps_head {c : Record} {r : RecResult} {k : WriteKind} {a : Addr} {b : List Byte}
    {more : List SeqStep} (steps : statusSteps c r = .write k a b :: more) : k = .results ∨ k = .status := by
  unfold statusSteps at steps
  split at steps <;> cases steps
  · exact .inl rfl
  · exact .inr rfl

theorem retireSteps_of_status (s : State) (i : LaneId) {c : Record} {r : RecResult} {k : WriteKind} {a : Addr}
    {b : List Byte} {more : List SeqStep} (status : statusSteps c r = .write k a b :: more) :
    ∃ rest, retireSteps s i c r true = .write k a b :: rest := by
  rw [retireSteps, if_pos rfl, status]
  exact ⟨_, rfl⟩

/-- R109: the result of a record that retires. -/
def Record.result (c : Record) (o : RecOutcome) (why : Reason) : RecResult :=
  { outcome := o, reason := why, notes := c.ex.notes, progress := c.ex.progress }

theorem Record.unwritten_result (c : Record) (o : RecOutcome) (why : Reason) :
    c.unwritten (c.result o why) false =
      { c with
        owed := if o = .failed ∨ o = .halted then none else some { res := c.result o why, accepted := false } } := by
  rw [Record.unwritten_eq, Record.result]
  split <;> rfl

/-- R154: the lane whose record's result has not been written. -/
def Lane.resultUnwritten (l : Lane) (c : Record) (r : RecResult) : Lane :=
  { l with haltReason := .hostAccess, cur := some (c.unwritten r false) }

/-- R154, R142: the notice of a record whose result has not been written. -/
def Record.unwrittenNotice (c : Record) : Notice :=
  { addr := c.addr, tag := c.tag, outcome := .failed, reason := .hostAccess, notes := c.ex.notes
    progress := c.ex.progress, rest := .halted }

theorem State.haltUnwritten_of_cur {s : State} {i : LaneId} {l : Lane} {c : Record} (o : RecOutcome) (why : Reason)
    (cur : l.cur = some c) (live : l.state ≠ .abandoning) :
    (s.setLane i l).haltUnwritten i (c.result o why) false =
      (s.setLane i (l.resultUnwritten c (c.result o why))).startSeq i .retiring .rehalt
        (restStep (s.setLane i l) i .halted ++ [.notice c.unwrittenNotice]) true := by
  have lane := s.lane_setLane_same i l
  rw [State.haltUnwritten_eq (c := c) _ _ (by rw [lane, cur]), lane, if_neg live, recordNotice_unwritten,
    State.setLane_setLane]
  rfl

/-- A lane that begins to retire has nothing in flight but its sequence. -/
theorem State.NothingAsked.retiring {s : State} {i : LaneId} (nothing : s.NothingAsked i) (c : Record)
    (o : RecOutcome) (why : Reason) : s.SeqOnly i (Lane.retiring s i (s.lane i) c o why) := by
  obtain ⟨units, block, poll, stale⟩ := nothing.seqOnly
  refine ⟨units, ?_, nofun, ?_⟩
  · change (if (s.lane i).pf.outstanding = .none then _ else _) = _
    rw [if_pos block]
  · change ((s.lane i).gate.stale || decide _) = false
    rw [stale, decide_eq_false poll]
    rfl

/-- A retirement off the link: its status is refused at once, and the lane halts with its result owed when it is final. -/
theorem State.retire_offLink {s : State} {i : LaneId} {c : Record} {o : RecOutcome} {why : Reason} {k : WriteKind}
    {a : Addr} {b : List Byte} {more : List SeqStep} (off : s.bus.busMaster = false) (nothing : s.NothingAsked i)
    (run : s.dev = .run) (cur : (s.lane i).cur = some c)
    (status : statusSteps c (c.result o why) = .write k a b :: more) :
    s.onLink i (s.retire i o why) = s.haltedOffLink i
      { (s.lane i).workEnded with cur := some (c.unwritten (c.result o why) false) } c.unwrittenNotice
      [.torn a b] := by
  have hold : s.hold = false := by simp [State.hold, run]
  have only := nothing.retiring c o why
  have slot : (Lane.retiring s i (s.lane i) c o why).slot = none := by
    obtain ⟨-, -, slot, -⟩ := nothing
    exact slot
  obtain ⟨rest, steps⟩ := retireSteps_of_status s i status
  have io : (Lane.retiring s i (s.lane i) c o why).io = .seq
      { kind := .retire (c.result o why), steps := .write k a b :: rest, begun := true, failed := false } := by
    rw [Lane.retiring, newSeq, hold, State.setLane_lane, ← Record.result, steps]
    rfl
  have lane (t : State) := t.lane_setLane_same i (Lane.retiring s i (s.lane i) c o why)
  have head := (((s.setLane i (Lane.retiring s i (s.lane i) c o why)).lane i).headWrite_iff _ k a b).mpr
    ⟨by rw [lane, io], rfl, rest, rfl⟩
  have ab : (Lane.retiring s i (s.lane i) c o why).state ≠ .abandoning := nofun
  have put : State.put (s.setLane i (Lane.retiring s i (s.lane i) c o why)) (.torn a b) =
      (s.put (.torn a b)).setLane i (Lane.retiring s i (s.lane i) c o why) := rfl
  have halting : (s.put (.torn a b)).SeqOnly i
      ((Lane.retiring s i (s.lane i) c o why).resultUnwritten c (c.result o why)) := ⟨only.units, only.reads⟩
  have same := congrArg Lane.restLast (lane (s.put (.torn a b)))
  obtain ⟨n, bound⟩ := (s.setLane i (Lane.retiring s i (s.lane i) c o why)).failBound_eq i
  rw [State.retire_eq o why cur, State.onLink_disabled off, bound,
    State.failUpTo_of_some (only.failHead io rfl rfl slot), State.writeRefused_status head rfl (statusSteps_head status),
    put, State.haltUnwritten_of_cur o why rfl ab, State.failUpTo_startHalt (.inr rfl) halting slot rfl same rfl,
    State.haltedOffLink_put]
  rfl

/-- Settles O36: the timeouts; the link while it is there; how each transfer fails while it is not; and what that makes
of the writes, of START and of a retirement. -/
theorem readTimesOut : Obligations.ReadTimesOut := by
  refine ⟨readTimeouts, fun s t i on => ?_, fun s t i off => ?_, fun t i n => ?_,
    fun c s t off nothing job h => exec_putsTorn off nothing job h, fun i s off nothing job run idle base => ?_,
    fun i s c o why k a b more off nothing run cur => ?_⟩
  · exact ⟨State.onLink_enabled on i t, State.onLinkAll_enabled on t, State.onLinkInspect_enabled on t⟩
  · refine ⟨State.onLink_of_nothing off, ⟨t.failBound i, t.failBound_ge i, State.onLink_disabled off i⟩, ?_,
      State.onLinkInspect_of_none off, fun j => State.onLinkInspect_of_some off⟩
    rw [State.onLinkAll, off, if_neg Bool.false_ne_true]
    simp only [State.onLink, off, Bool.false_eq_true, if_false]
  · refine ⟨t.failOne_eq_none i, rfl, fun none => State.failUpTo_of_none none _, fun u some => ?_⟩
    exact ⟨State.failUpTo_of_some some n, State.failOne_by some⟩
  · have ok : actionAccepted .start (s.lane i) (decide (s.dev = .held)) = true := by simp [actionAccepted, idle]
    have judged : judgeAction s i .start = .accepted := by
      rw [judgeAction, if_pos ok, if_neg fun h => base h.2]
    change Host.Outcome.next (s.laneCmd i 1) = _
    rw [State.laneCmd_of_accepted job rfl judged]
    exact congrArg _ (State.startLane_offLink (s := s.cmdTaken i 1 .accepted) off nothing run)
  · intro r status
    rw [State.retire_offLink off nothing run cur status, Record.unwritten_result]
    rfl

end Sys2Proof.Machine
end
